-- ==== Sys2Proof/Word.lean ====
section
/-! DEFINITION. The word types of the NRM-6424: what the ports carry (spec/10, R173, R181) and the levels of the
24 signal lines taken together (R184). -/

namespace Sys2Proof

/-- A byte of a frame: the code (byte 0) or the selector (byte 1) of R181, or an index of a divided value. -/
abbrev Byte := BitVec 8

/-- The 32-bit value of a command, or the 32-bit data of an answer (R175, R181). -/
abbrev Word := BitVec 32

/-- The field value of a divided value, bits 23-0 (R181). -/
abbrev FieldValue := BitVec 24

/-- One level for each of SL0-SL23, bit n for line SLn (R184). -/
abbrev Pins := BitVec 24

/-- A whole frame of 48 bits, the first bit shifted the most significant (R173, R181). -/
abbrev FrameWord := BitVec 48

end Sys2Proof
end

