-- ==== Sys2Proof/Syntax.lean ====
section
/-! DEFINITION. The commands of the NRM-6424: one constructor for each row of spec/opcode_table.json, with the
operands its rule gives it. A port command carries the port whose frame brings it (spec/10, R173), its selector and
its value (R181); an event of the machinery or of the supply carries what the device reads at that moment. -/

namespace Sys2Proof

/-- The three SPI target ports (R173): Line Port A, Line Port B, the Maintenance Port. -/
inductive Port where
  | a | b | m
deriving DecidableEq, Repr

/-- A line port, as an owner, an owner side or the sender of a load report (R2, R44). -/
inductive Side where
  | a | b
deriving DecidableEq, Repr

/-- What takes the device into RETAINED (R165): VMAIN below its trip level, or RSTN driven low. -/
inductive LossCause where
  | vmain | rstn
deriving DecidableEq, Repr

/-- The values a disturbed element record takes while RETAINED (R84), in the order R84 names the fields. A
reference line of 255 stands for an absent one (R183). The widths are the model's (DESIGN CHOICE, log 11). -/
structure Disturbance where
  tach      : Byte
  ratio     : BitVec 16
  reference : Byte
  expected  : BitVec 16
  tolerance : Byte
  slipWeight : Byte
  limit     : Word
  margin    : Word
  wear      : Word
  check     : BitVec 16
deriving DecidableEq, Repr

/-- One constructor for each row of the table of operations and events. `sel` is the selector of a frame, `val` its
whole value, `idx` and `fv` the index and the field value of a divided value (R181). -/
inductive Instr where
  /-- NOP (R180): A command that is answered DONE with data 0, changes no state and is used to clock out the last staged answer. -/
  | nop (p : Port)
  /-- READ_STATUS (R172): Returns the part of the device state named by the selector: states and start kind, counts, or votes and fitted flags. -/
  | readStatus (p : Port) (sel : Byte)
  /-- READ_NOTICES (R150): Returns the caller's pending set and, with selector 0, removes the event notices it returns; selectors 1 and 2 return the set or the mask without change. -/
  | readNotices (p : Port) (sel : Byte)
  /-- SET_NOTICE_MASK (R146): Writes the caller's notice mask and re-derives its attention line. -/
  | setNoticeMask (p : Port) (val : Word)
  /-- PAGE (R152): Raises the PAGE event notice at the port named by the selector. -/
  | page (p : Port) (sel : Byte)
  /-- UNFREEZE (R20): Clears the frozen flag so that every pin takes the drive its function and settings give. -/
  | unfreeze (p : Port)
  /-- VOTE (R156): Sets the caller's vote to RUN, PAUSE or PARK and brings the operating state to the requested state. -/
  | vote (p : Port) (val : Word)
  /-- SHIFT_MARK (R33): From a line port, sets the SHIFT marker in the current window's marker set. -/
  | shiftMark (p : Port)
  /-- LOAD (R45): From an owner line port, replaces its load report for a zone, reloads the hold and re-forms the effective class. -/
  | load (p : Port) (sel : Byte) (val : Word)
  /-- GRANT (R115): Records a line port's consent to a requested zone's hold, making the zone HELD once every owner has granted. -/
  | grant (p : Port) (sel : Byte)
  /-- REVOKE (R117): Withdraws a line port's grant for a zone, dropping a HELD zone to REQUESTED with its tickets returned to AWAITING. -/
  | revoke (p : Port) (sel : Byte)
  /-- READ_LINES (R7): Returns the raw level of each of the 24 signal lines. -/
  | readLines (p : Port) (levels : Pins)
  /-- SET_LINE_FUNCTION (R13): SET-LINE of the function field: changes a line's role, which starts or clears its pulse counter and re-derives its drive, gate and hold. -/
  | setLineFunction (p : Port) (sel : Byte) (fv : FieldValue)
  /-- SET_LINE_DIRECTION (R3): SET-LINE of the direction field of a line record, re-deriving the pin drive. -/
  | setLineDirection (p : Port) (sel : Byte) (fv : FieldValue)
  /-- SET_LINE_LEVEL_FIELD (R3): SET-LINE of the PLAIN level field of a line record, re-deriving the pin drive. -/
  | setLineLevelField (p : Port) (sel : Byte) (fv : FieldValue)
  /-- SET_LINE_PULL_UP (R3): SET-LINE of the pull-up field of a line record. -/
  | setLinePullUp (p : Port) (sel : Byte) (fv : FieldValue)
  /-- SET_LINE_FLOAT (R3): SET-LINE of the float field of a line record, re-deriving the pin drive. -/
  | setLineFloat (p : Port) (sel : Byte) (fv : FieldValue)
  /-- SET_LINE_SENSING_MODE (R10): SET-LINE of the sensing mode, which re-establishes a TACH line's sampled level while keeping its count. -/
  | setLineSensingMode (p : Port) (sel : Byte) (fv : FieldValue)
  /-- SET_LINE_POLARITY (R3): SET-LINE of the polarity field, changing the line's active level and possibly making a GATE line active. -/
  | setLinePolarity (p : Port) (sel : Byte) (fv : FieldValue)
  /-- SET_LINE_WAKE_ENABLE (R3): SET-LINE of the wake enable field of a line record. -/
  | setLineWakeEnable (p : Port) (sel : Byte) (fv : FieldValue)
  /-- SET_LINE_ZONE (R15): SET-LINE of the zone field, moving a GATE, HOLD or LAMP line to another zone and re-deriving gate, hold and beacon. -/
  | setLineZone (p : Port) (sel : Byte) (fv : FieldValue)
  /-- SET_LINE_OWNER_SIDE (R17): SET-LINE of the owner side field of a HOLD line, re-deriving its assertion. -/
  | setLineOwnerSide (p : Port) (sel : Byte) (fv : FieldValue)
  /-- READ_LINE_SETTING (R4): Returns one field of a line record or the line's running pulse count. -/
  | readLineSetting (p : Port) (sel : Byte) (val : Word)
  /-- SET_LINE_LEVEL (R6): Writes the PLAIN level of a line, which the pin follows when the line is an unfrozen PLAIN output. -/
  | setLineLevel (p : Port) (sel : Byte) (val : Word)
  /-- SET_EPOCH_DIVIDER (R25): SET-TABLE of D: sets the DIVIDER marker, closes the current epoch at once and starts an epoch of the new length. -/
  | setEpochDivider (p : Port) (val : Word)
  /-- SET_WINDOW_LENGTH (R28): SET-TABLE of the window length E, changing the reload value for the next window. -/
  | setWindowLength (p : Port) (val : Word)
  /-- SET_HISTORY_MODE (R39): SET-TABLE of the history mode, STOP or CYCLE. -/
  | setHistoryMode (p : Port) (val : Word)
  /-- SET_ZONE_OWNER (R42): SET-TABLE of a zone's owner while it is FREE, lapsing removed owners' reports and re-forming the effective class. -/
  | setZoneOwner (p : Port) (idx : Byte) (fv : FieldValue)
  /-- SET_FALLBACK_CLASS (R41): SET-TABLE of a zone's fallback class. -/
  | setFallbackClass (p : Port) (idx : Byte) (fv : FieldValue)
  /-- SET_HOLD_TIME (R41): SET-TABLE of a zone's hold time, the reload value for later accepted LOADs. -/
  | setHoldTime (p : Port) (idx : Byte) (fv : FieldValue)
  /-- SET_LOAD_WEIGHT (R51): SET-TABLE of one entry of the load weight table. -/
  | setLoadWeight (p : Port) (idx : Byte) (fv : FieldValue)
  /-- SET_SPEED_BAND_BOUND (R74): SET-TABLE of one speed band bound U_i. -/
  | setSpeedBandBound (p : Port) (idx : Byte) (fv : FieldValue)
  /-- SET_SPEED_BAND_FACTOR (R74): SET-TABLE of one speed band factor S_i. -/
  | setSpeedBandFactor (p : Port) (idx : Byte) (fv : FieldValue)
  /-- SET_SMOOTHING_SHIFT (R86): SET-TABLE of the smoothing shift k, used from the next window end. -/
  | setSmoothingShift (p : Port) (val : Word)
  /-- SET_HORIZON (R99): SET-TABLE of the horizon H, which brings the due list into order at once. -/
  | setHorizon (p : Port) (val : Word)
  /-- SET_GRANT_TIME (R110): SET-TABLE of the grant time loaded at later grant timer loadings. -/
  | setGrantTime (p : Port) (val : Word)
  /-- SET_FITTED_FLAG (R157): SET-TABLE of a line port's fitted flag, then bringing the operating state to the requested state. -/
  | setFittedFlag (p : Port) (side : Side) (val : Word)
  /-- SET_QUIET_SCAN_INDEX (R11): SET-TABLE of the quiet scan index, restarting the contact-scan timer if QUIET is in force. -/
  | setQuietScanIndex (p : Port) (val : Word)
  /-- SET_PARK_SCAN_INDEX (R11): SET-TABLE of the park scan index. -/
  | setParkScanIndex (p : Port) (val : Word)
  /-- READ_TABLE (R182): Returns one table item named by the selector and index. -/
  | readTable (p : Port) (item : Byte) (idx : Byte)
  /-- READ_ELEMENT (R60): Returns one field of one element record. -/
  | readElement (p : Port) (sel : Byte) (val : Word)
  /-- SET_ELEMENT_ZONE (R65): SET-ELEMENT of an element's zone, refused while the element is a ticket item. -/
  | setElementZone (p : Port) (sel : Byte) (fv : FieldValue)
  /-- SET_ELEMENT_TACH_LINE (R62): SET-ELEMENT of the tach line, resetting the residue Q. -/
  | setElementTachLine (p : Port) (sel : Byte) (fv : FieldValue)
  /-- SET_ELEMENT_PPR (R62): SET-ELEMENT of PPR, resetting the residue Q. -/
  | setElementPpr (p : Port) (sel : Byte) (fv : FieldValue)
  /-- SET_ELEMENT_RATIO (R62): SET-ELEMENT of the ratio G, resetting the residue Q. -/
  | setElementRatio (p : Port) (sel : Byte) (fv : FieldValue)
  /-- SET_ELEMENT_REFERENCE_LINE (R63): SET-ELEMENT of the reference line, starting or ending slip checks from the next close. -/
  | setElementReferenceLine (p : Port) (sel : Byte) (fv : FieldValue)
  /-- SET_ELEMENT_EXPECTED_RATIO (R63): SET-ELEMENT of the expected ratio K. -/
  | setElementExpectedRatio (p : Port) (sel : Byte) (fv : FieldValue)
  /-- SET_ELEMENT_SLIP_TOLERANCE (R63): SET-ELEMENT of the slip tolerance Tol. -/
  | setElementSlipTolerance (p : Port) (sel : Byte) (fv : FieldValue)
  /-- SET_ELEMENT_SLIP_WEIGHT (R63): SET-ELEMENT of the slip weight Y. -/
  | setElementSlipWeight (p : Port) (sel : Byte) (fv : FieldValue)
  /-- SET_ELEMENT_LIMIT (R64): SET-ELEMENT of the limit L, re-deriving state and projection of an element in use. -/
  | setElementLimit (p : Port) (sel : Byte) (fv : FieldValue)
  /-- SET_ELEMENT_MARGIN (R64): SET-ELEMENT of the notice margin M, re-deriving state and projection of an element in use. -/
  | setElementMargin (p : Port) (sel : Byte) (fv : FieldValue)
  /-- ENABLE_ELEMENT (R66): Brings an IDLE element into use, zeroing its carries, accumulator and rate and deriving its state. -/
  | enableElement (p : Port) (sel : Byte)
  /-- DISABLE_ELEMENT (R68): Takes an element out of use, making it IDLE and removing it from the due list. -/
  | disableElement (p : Port) (sel : Byte)
  /-- PRESET_WEAR (R69): Sets the wear of an IDLE element. -/
  | presetWear (p : Port) (sel : Byte) (val : Word)
  /-- ACCEPT_ELEMENT (R70): Returns a SUSPECT element to the account with its record taken as true. -/
  | acceptElement (p : Port) (sel : Byte)
  /-- READ_PLAN (R100): Returns a due-list member at a position, or the plan generation number and member count. -/
  | readPlan (p : Port) (sel : Byte) (val : Word)
  /-- READ_ZONE (R102): Returns a zone's due members, DUE elements, effective class, hold state and grants. -/
  | readZone (p : Port) (sel : Byte)
  /-- OPEN_TICKET (R111): Creates a PLANNED ticket for one in-use element. -/
  | openTicket (p : Port) (sel : Byte)
  /-- ADD_ITEM (R112): Appends an element of the same zone to a PLANNED ticket. -/
  | addItem (p : Port) (sel : Byte) (val : Word)
  /-- START_TICKET (R113): Starts a PLANNED or STALLED ticket, raising its zone's demand and requesting or joining the hold. -/
  | startTicket (p : Port) (sel : Byte)
  /-- RENEW (R124): Records the replacement of an item's element on a WORKING ticket, logging it and resetting the element's wear. -/
  | renew (p : Port) (sel : Byte) (val : Word)
  /-- INSPECT (R125): Records that an item's element was examined and left in place, logging it. -/
  | inspect (p : Port) (sel : Byte) (val : Word)
  /-- CLOSE_TICKET (R126): Removes a ticket, logging its PENDING items as NOT-DONE if it ever worked and lowering its zone's demand. -/
  | closeTicket (p : Port) (sel : Byte)
  /-- READ_TICKET (R127): Returns a part of the ticket table or of one ticket. -/
  | readTicket (p : Port) (sel : Byte) (val : Word)
  /-- READ_HISTORY (R35): Returns the history field under the port's cursor and advances it, or returns the cursor position. -/
  | readHistory (p : Port) (sel : Byte)
  /-- REWIND_HISTORY (R37): Moves the caller's history cursor to the oldest record. -/
  | rewindHistory (p : Port)
  /-- CLEAR_HISTORY (R38): Empties the Zone History ring and sets all history cursors past newest. -/
  | clearHistory (p : Port)
  /-- READ_LOG (R139): Returns the log field under the port's cursor and advances it, or returns cursor position, sequence number or record count. -/
  | readLog (p : Port) (sel : Byte)
  /-- REWIND_LOG (R141): Moves the caller's log cursor to the oldest log record. -/
  | rewindLog (p : Port)
  /-- CLEAR_LOG (R141): Empties the Service Log ring and sets all log cursors past newest. -/
  | clearLog (p : Port)
  /-- SOFT_RESET (R171): Makes a SOFT start at the moment it is taken. -/
  | softReset (p : Port)
  /-- CLEAR_ALL (R171): Makes a COLD start at the moment it is taken, setting the retained domain to its COLD values. -/
  | clearAll (p : Port)
  /-- FRAME_BEGIN (R173): Assertion of a port's chip select begins a frame, resets its bit count and starts shifting out the staged answer with ATTN and FROZEN formed. -/
  | frameBegin (p : Port)
  /-- FRAME_END (R174): Release of chip select takes the frame: a 48-bit frame has its command checked and taken, its answer staged. -/
  | frameEnd (p : Port) (edges : Nat) (frame : FrameWord) (levels : Pins)
  /-- UNKNOWN_CODE (R179): A taken frame whose code names no command is answered UNKNOWN. -/
  | unknownCode (p : Port) (code : Byte)
  /-- BAD_FRAME (R177): A chip-select period of other than 48 bits is discarded, raising FRAME and staging the BAD-FRAME answer. -/
  | badFrame (p : Port) (edges : Nat)
  /-- VOID_FRAME_DISCARD (R178): A frame under way at a start is discarded at its release without command, notice or answer; `edges` bits came since that start (log 3). -/
  | voidFrameDiscard (p : Port) (edges : Nat := 48)
  /-- LEVEL_FILTER_ACCEPT (R1): A pin has held a new level for 20 us and the level filter accepts it as the line's filtered level. -/
  | levelFilterAccept (line : Fin 24) (level : Bool)
  /-- CONTACT_SCAN (R10): Expiry of the contact-scan period excites and samples the CONTACT TACH lines, counting a pulse on an inactive-to-active sample. -/
  | contactScan (levels : Pins)
  /-- BLINK_HALF_CYCLE (R18): Each 500 ms half-cycle of the blink clock re-derives the blinking beacons. -/
  | blinkHalfCycle
  /-- EPOCH_CLOSE (R24): Expiry of the epoch closes it, handing pulse counts, counting down load holds, accruing wear and counting the close. -/
  | epochClose
  /-- MOTION_REPORT (R120): A motion report taken on a zone raises MOTION and drops a HELD zone to REQUESTED with its grants cleared. -/
  | motionReport (zone : Fin 8)
  /-- WINDOW_END (R29): The remaining count reaches 0: the sequence number rises, rates and projections are formed, a history record is appended and the window reloads. -/
  | windowEnd
  /-- GRANT_TIMER_EXPIRY (R118): An AWAITING ticket's grant timer reaches 0: the ticket stalls, demand falls, STALL is raised and the zone may be released. -/
  | grantTimerExpiry (ticket : Byte)
  /-- SUPPLY_LOSS (R165): VMAIN falling below its trip level or RSTN driven low makes the device enter RETAINED, discarding non-retained state. -/
  | supplyLoss (cause : LossCause)
  /-- KEEP_SUPPLY_LOSS (R165): VKEEP below its range while VMAIN is below trip sets the retained-valid marker lost; `below` is what the supply monitor now sees of VKEEP (log 14). -/
  | keepSupplyLoss (below : Bool := true)
  /-- RETAINED_EXIT (R167): With VMAIN above trip and RSTN high the device leaves RETAINED by a WARM or COLD start chosen by the marker. -/
  | retainedExit (vmainAbove rstnHigh : Bool)
  /-- RETAINED_DISTURBANCE (R84): While the device is RETAINED, an element record in the retained domain is disturbed. -/
  | retainedDisturbance (element : Fin 64) (d : Disturbance)
deriving DecidableEq, Repr

end Sys2Proof
end

