-- ==== Sys2Proof/Decode.lean ====
section
/-! DEFINITION. The 48-bit frame (spec/10, R181), the codes of the commands and the ports permitted to send them
(R180), the frame that carries each port command, and the host's reading of a table word. The opcode table gives no
row any bits, so no word spells a command there (log 25); a frame is decoded where FRAME_END takes it. -/

namespace Sys2Proof

/-! The codes of R180. -/
namespace Code

def nop : Byte := 0x00
def readStatus : Byte := 0x01
def readNotices : Byte := 0x02
def setNoticeMask : Byte := 0x03
def page : Byte := 0x04
def unfreeze : Byte := 0x05
def vote : Byte := 0x08
def shiftMark : Byte := 0x09
def load : Byte := 0x0A
def grant : Byte := 0x0B
def revoke : Byte := 0x0C
def readLines : Byte := 0x10
def setLine : Byte := 0x11
def readLineSetting : Byte := 0x12
def setLineLevel : Byte := 0x13
def setTable : Byte := 0x18
def readTable : Byte := 0x19
def readElement : Byte := 0x20
def setElement : Byte := 0x21
def enableElement : Byte := 0x22
def disableElement : Byte := 0x23
def presetWear : Byte := 0x24
def acceptElement : Byte := 0x25
def readPlan : Byte := 0x28
def readZone : Byte := 0x29
def openTicket : Byte := 0x30
def addItem : Byte := 0x31
def startTicket : Byte := 0x32
def renew : Byte := 0x33
def inspect : Byte := 0x34
def closeTicket : Byte := 0x35
def readTicket : Byte := 0x36
def readHistory : Byte := 0x38
def rewindHistory : Byte := 0x39
def clearHistory : Byte := 0x3A
def readLog : Byte := 0x3C
def rewindLog : Byte := 0x3D
def clearLog : Byte := 0x3E
def softReset : Byte := 0x3F
def clearAll : Byte := 0x7F

end Code

/-- Which ports R180 permits to send a command: all three, the line ports, or the Maintenance Port. -/
inductive Senders where
  | all | line | maintenance
deriving DecidableEq, Repr

/-- The table of R180: each code with its permitted senders. -/
def commandTable : List (Byte × Senders) :=
  [(Code.nop, .all), (Code.readStatus, .all), (Code.readNotices, .all), (Code.setNoticeMask, .all),
   (Code.page, .all), (Code.unfreeze, .all), (Code.vote, .all), (Code.shiftMark, .line), (Code.load, .line),
   (Code.grant, .line), (Code.revoke, .line), (Code.readLines, .all), (Code.setLine, .maintenance),
   (Code.readLineSetting, .all), (Code.setLineLevel, .maintenance), (Code.setTable, .maintenance)] ++
  [(Code.readTable, .all), (Code.readElement, .all), (Code.setElement, .maintenance),
   (Code.enableElement, .maintenance), (Code.disableElement, .maintenance), (Code.presetWear, .maintenance),
   (Code.acceptElement, .maintenance), (Code.readPlan, .all), (Code.readZone, .all),
   (Code.openTicket, .maintenance), (Code.addItem, .maintenance), (Code.startTicket, .maintenance)] ++
  [(Code.renew, .maintenance), (Code.inspect, .maintenance), (Code.closeTicket, .maintenance),
   (Code.readTicket, .all), (Code.readHistory, .all), (Code.rewindHistory, .all),
   (Code.clearHistory, .maintenance), (Code.readLog, .all), (Code.rewindLog, .all),
   (Code.clearLog, .maintenance), (Code.softReset, .maintenance), (Code.clearAll, .maintenance)]

/-- The permitted senders of a code; none where the code names no command (R179, R180). -/
def sendersOf (code : Byte) : Option Senders :=
  (commandTable.find? fun row => row.1 = code).map (·.2)

/-- Whether a port is among the permitted senders (R180). -/
def Senders.permit : Senders → Port → Bool
  | .all, _ => true
  | .line, .a => true
  | .line, .b => true
  | .line, .m => false
  | .maintenance, .m => true
  | .maintenance, _ => false

/-- Byte 0 of a frame, the command code (R181). -/
def codeOf (frame : FrameWord) : Byte := frame.extractLsb' 40 8

/-- Byte 1 of a frame, the selector (R181). -/
def selectorOf (frame : FrameWord) : Byte := frame.extractLsb' 32 8

/-- Bytes 2 to 5 of a frame, the value, byte 2 the most significant (R181). -/
def valueOf (frame : FrameWord) : Word := frame.extractLsb' 0 32

/-- The index of a divided value, bits 31-24 (R181). -/
def indexOf (val : Word) : Byte := val.extractLsb' 24 8

/-- The field value of a divided value, bits 23-0 (R181). -/
def fieldValueOf (val : Word) : FieldValue := val.extractLsb' 0 24

/-- The six bytes of a frame, most significant first (R175, R181). -/
def frameWord (code sel : Byte) (val : Word) : FrameWord := code ++ sel ++ val

/-- A value divided into an index and a field value (R181). -/
def dividedValue (idx : Byte) (fv : FieldValue) : Word := idx ++ fv

/-- The value of a command that takes none, which the device ignores (R181). -/
def noValue : Word := 0

/-- The selector of a command that takes none, which the device ignores (R181). -/
def noSelector : Byte := 0

/-- The port and the 48-bit frame that carry a port command (R180 to R184); none for a frame event and for an event
of the machinery or of the supply. Bits that the device ignores are 0. -/
def frameOf : Instr → Option (Port × FrameWord)
  | .nop p => some (p, frameWord Code.nop noSelector noValue)
  | .readStatus p sel => some (p, frameWord Code.readStatus sel noValue)
  | .readNotices p sel => some (p, frameWord Code.readNotices sel noValue)
  | .setNoticeMask p val => some (p, frameWord Code.setNoticeMask noSelector val)
  | .page p sel => some (p, frameWord Code.page sel noValue)
  | .unfreeze p => some (p, frameWord Code.unfreeze noSelector noValue)
  | .vote p val => some (p, frameWord Code.vote noSelector val)
  | .shiftMark p => some (p, frameWord Code.shiftMark noSelector noValue)
  | .load p sel val => some (p, frameWord Code.load sel val)
  | .grant p sel => some (p, frameWord Code.grant sel noValue)
  | .revoke p sel => some (p, frameWord Code.revoke sel noValue)
  | .readLines p _ => some (p, frameWord Code.readLines noSelector noValue)
  | .setLineFunction p sel fv => some (p, frameWord Code.setLine sel (dividedValue 0 fv))
  | .setLineDirection p sel fv => some (p, frameWord Code.setLine sel (dividedValue 1 fv))
  | .setLineLevelField p sel fv => some (p, frameWord Code.setLine sel (dividedValue 2 fv))
  | .setLinePullUp p sel fv => some (p, frameWord Code.setLine sel (dividedValue 3 fv))
  | .setLineFloat p sel fv => some (p, frameWord Code.setLine sel (dividedValue 4 fv))
  | .setLineSensingMode p sel fv => some (p, frameWord Code.setLine sel (dividedValue 5 fv))
  | .setLinePolarity p sel fv => some (p, frameWord Code.setLine sel (dividedValue 6 fv))
  | .setLineWakeEnable p sel fv => some (p, frameWord Code.setLine sel (dividedValue 7 fv))
  | .setLineZone p sel fv => some (p, frameWord Code.setLine sel (dividedValue 8 fv))
  | .setLineOwnerSide p sel fv => some (p, frameWord Code.setLine sel (dividedValue 9 fv))
  | .readLineSetting p sel val => some (p, frameWord Code.readLineSetting sel val)
  | .setLineLevel p sel val => some (p, frameWord Code.setLineLevel sel val)
  | .setEpochDivider p val => some (p, frameWord Code.setTable 0 val)
  | .setWindowLength p val => some (p, frameWord Code.setTable 2 val)
  | .setHistoryMode p val => some (p, frameWord Code.setTable 5 val)
  | .setZoneOwner p idx fv => some (p, frameWord Code.setTable 6 (dividedValue idx fv))
  | .setFallbackClass p idx fv => some (p, frameWord Code.setTable 7 (dividedValue idx fv))
  | .setHoldTime p idx fv => some (p, frameWord Code.setTable 8 (dividedValue idx fv))
  | .setLoadWeight p idx fv => some (p, frameWord Code.setTable 11 (dividedValue idx fv))
  | .setSpeedBandBound p idx fv => some (p, frameWord Code.setTable 12 (dividedValue idx fv))
  | .setSpeedBandFactor p idx fv => some (p, frameWord Code.setTable 13 (dividedValue idx fv))
  | .setSmoothingShift p val => some (p, frameWord Code.setTable 14 val)
  | .setHorizon p val => some (p, frameWord Code.setTable 15 val)
  | .setGrantTime p val => some (p, frameWord Code.setTable 16 val)
  | .setFittedFlag p .a val => some (p, frameWord Code.setTable 17 val)
  | .setFittedFlag p .b val => some (p, frameWord Code.setTable 18 val)
  | .setQuietScanIndex p val => some (p, frameWord Code.setTable 19 val)
  | .setParkScanIndex p val => some (p, frameWord Code.setTable 20 val)
  | .readTable p item idx => some (p, frameWord Code.readTable item (dividedValue idx 0))
  | .readElement p sel val => some (p, frameWord Code.readElement sel val)
  | .setElementZone p sel fv => some (p, frameWord Code.setElement sel (dividedValue 0 fv))
  | .setElementTachLine p sel fv => some (p, frameWord Code.setElement sel (dividedValue 1 fv))
  | .setElementPpr p sel fv => some (p, frameWord Code.setElement sel (dividedValue 2 fv))
  | .setElementRatio p sel fv => some (p, frameWord Code.setElement sel (dividedValue 3 fv))
  | .setElementReferenceLine p sel fv => some (p, frameWord Code.setElement sel (dividedValue 4 fv))
  | .setElementExpectedRatio p sel fv => some (p, frameWord Code.setElement sel (dividedValue 5 fv))
  | .setElementSlipTolerance p sel fv => some (p, frameWord Code.setElement sel (dividedValue 6 fv))
  | .setElementSlipWeight p sel fv => some (p, frameWord Code.setElement sel (dividedValue 7 fv))
  | .setElementLimit p sel fv => some (p, frameWord Code.setElement sel (dividedValue 8 fv))
  | .setElementMargin p sel fv => some (p, frameWord Code.setElement sel (dividedValue 9 fv))
  | .enableElement p sel => some (p, frameWord Code.enableElement sel noValue)
  | .disableElement p sel => some (p, frameWord Code.disableElement sel noValue)
  | .presetWear p sel val => some (p, frameWord Code.presetWear sel val)
  | .acceptElement p sel => some (p, frameWord Code.acceptElement sel noValue)
  | .readPlan p sel val => some (p, frameWord Code.readPlan sel val)
  | .readZone p sel => some (p, frameWord Code.readZone sel noValue)
  | .openTicket p sel => some (p, frameWord Code.openTicket sel noValue)
  | .addItem p sel val => some (p, frameWord Code.addItem sel val)
  | .startTicket p sel => some (p, frameWord Code.startTicket sel noValue)
  | .renew p sel val => some (p, frameWord Code.renew sel val)
  | .inspect p sel val => some (p, frameWord Code.inspect sel val)
  | .closeTicket p sel => some (p, frameWord Code.closeTicket sel noValue)
  | .readTicket p sel val => some (p, frameWord Code.readTicket sel val)
  | .readHistory p sel => some (p, frameWord Code.readHistory sel noValue)
  | .rewindHistory p => some (p, frameWord Code.rewindHistory noSelector noValue)
  | .clearHistory p => some (p, frameWord Code.clearHistory noSelector noValue)
  | .readLog p sel => some (p, frameWord Code.readLog sel noValue)
  | .rewindLog p => some (p, frameWord Code.rewindLog noSelector noValue)
  | .clearLog p => some (p, frameWord Code.clearLog noSelector noValue)
  | .softReset p => some (p, frameWord Code.softReset noSelector noValue)
  | .clearAll p => some (p, frameWord Code.clearAll noSelector noValue)
  | .unknownCode p code => some (p, frameWord code noSelector noValue)
  | .frameBegin _ => none
  | .frameEnd _ _ _ _ => none
  | .badFrame _ _ => none
  | .voidFrameDiscard _ _ => none
  | .levelFilterAccept _ _ => none
  | .contactScan _ => none
  | .blinkHalfCycle => none
  | .epochClose => none
  | .motionReport _ => none
  | .windowEnd => none
  | .grantTimerExpiry _ => none
  | .supplyLoss _ => none
  | .keepSupplyLoss _ => none
  | .retainedExit _ _ => none
  | .retainedDisturbance _ _ => none

/-- The command that a word spells by the table's bits. No row of spec/opcode_table.json gives bits, so no word
spells one (log 25). -/
def decodeTableWord (_nbits _w : Nat) : Option Instr := none

end Sys2Proof
end

