-- ==== Sys2Proof/Config.lean ====
section
/-! DEFINITION. What one device fixes: capacities, top values, the scan table and the values after a COLD start that
are tables, each from the rule named; and the one free value, an `opaque` constant that no proof can see into. -/

namespace Sys2Proof
namespace Config

/-- The zone history ring holds 48 records (R34). -/
def historyCapacity : Nat := 48

/-- The service log ring holds 128 records (R138). -/
def logCapacity : Nat := 128

/-- The ticket table holds 8 tickets (R107). -/
def ticketCapacity : Nat := 8

/-- A ticket holds at most 6 items (R106). -/
def itemCapacity : Nat := 6

/-- Wear saturates at 4,294,967,295 wear revolutions (R55). -/
def wearTop : Nat := 4294967295

/-- The window accumulator A saturates at 16,777,215 (R55). -/
def accumulatorTop : Nat := 16777215

/-- A current zone sum saturates at 16,777,215 (R32). -/
def zoneSumTop : Nat := 16777215

/-- Pulse, renew and slip counts saturate at 65535 (R8, R55). -/
def countTop : Nat := 65535

/-- A projection of 65535 stands for "not within a reckonable time" (R92). -/
def projectionTop : Nat := 65535

/-- A block is 4096 wear revolutions (R57). -/
def block : Nat := 4096

/-- The carry F counts 16384ths of a wear revolution (R75, R78). -/
def carryUnit : Nat := 16384

/-- The frame bit count stays at 255 once it reaches it (R173). -/
def bitCountTop : Nat := 255

/-- The 16 entries of the scan table, in milliseconds (R11). -/
def scanTable : List Nat := [2, 4, 6, 8, 12, 16, 24, 32, 48, 64, 96, 128, 192, 256, 384, 512]

/-- The load weights W0 to W7 after a COLD start, in sixteenths (R51). -/
def coldWeights : List Nat := [4, 8, 12, 16, 20, 24, 32, 40]

/-- The speed band bounds U_0 to U_7 after a COLD start, in rev64 per epoch (R74). -/
def coldBounds : List Nat := [64, 256, 512, 1024, 1536, 2048, 3072, 65535]

/-- The speed band factors S_0 to S_7 after a COLD start, in sixteenths (R74). -/
def coldFactors : List Nat := [12, 14, 16, 17, 18, 20, 22, 24]

/-- FREE VALUE (log 10). Whether the Signal Line Unit hands a tach line number above 23 as TACH at a close. Such a
number names no line, and no rule says what is handed; only a record disturbed while RETAINED (R84) and then renewed
(R124) is accrued with one. The arguments are the number and the model's counter of closes. -/
opaque strayTach : Nat → Nat → Bool

/-- FREE VALUE (log 10). The count handed for a tach line number above 23, from 0 to 65535 as any count (R8). -/
opaque strayCount : Nat → Nat → BitVec 16

end Config
end Sys2Proof
end

