-- ==== Sys2Proof/Machine/Table.lean ====
section
/-! DEFINITION. Two containers of fixed size: a table of `n` like records (lines, zones, elements), and one record
for each port. Both are plain data. -/

namespace Sys2Proof.Machine

/-- A table of exactly `n` records, numbered from 0. -/
structure Table (α : Type) (n : Nat) where
  data : List α
  size : data.length = n
deriving DecidableEq, Repr

/-- The record with number `i`. -/
def Table.get {α : Type} {n : Nat} (t : Table α n) (i : Fin n) : α :=
  t.data[i.val]'(by rw [t.size]; exact i.isLt)

/-- The table with record `i` replaced. -/
def Table.set {α : Type} {n : Nat} (t : Table α n) (i : Fin n) (a : α) : Table α n :=
  ⟨t.data.set i.val a, by rw [List.length_set, t.size]⟩

/-- The table whose record `i` is `f i`. -/
def Table.ofFn {α : Type} {n : Nat} (f : Fin n → α) : Table α n :=
  ⟨List.ofFn f, List.length_ofFn⟩

/-- The table with every record rewritten by `f`, which is told the record's number. -/
def Table.mapIdx {α β : Type} {n : Nat} (t : Table α n) (f : Fin n → α → β) : Table β n :=
  Table.ofFn fun i => f i (t.get i)

/-- The table with record `i` rewritten by `f`. -/
def Table.modify {α : Type} {n : Nat} (t : Table α n) (i : Fin n) (f : α → α) : Table α n :=
  t.set i (f (t.get i))

/-- Whether some record has the property. -/
def Table.any {α : Type} {n : Nat} (t : Table α n) (f : α → Bool) : Bool := t.data.any f

/-- How many records have the property. -/
def Table.count {α : Type} {n : Nat} (t : Table α n) (f : α → Bool) : Nat := t.data.countP f

/-- One record for each of the three ports. -/
structure PerPort (α : Type) where
  a : α
  b : α
  m : α
deriving DecidableEq, Repr

/-- The record of a port. -/
def PerPort.get {α : Type} (r : PerPort α) : Port → α
  | .a => r.a
  | .b => r.b
  | .m => r.m

/-- The records with one port's replaced. -/
def PerPort.set {α : Type} (r : PerPort α) (p : Port) (x : α) : PerPort α :=
  match p with
  | .a => { r with a := x }
  | .b => { r with b := x }
  | .m => { r with m := x }

/-- The records with one port's rewritten. -/
def PerPort.modify {α : Type} (r : PerPort α) (p : Port) (f : α → α) : PerPort α := r.set p (f (r.get p))

/-- The records with every port's rewritten. -/
def PerPort.map {α β : Type} (r : PerPort α) (f : α → β) : PerPort β := ⟨f r.a, f r.b, f r.m⟩

/-- The same record for every port. -/
def PerPort.all {α : Type} (x : α) : PerPort α := ⟨x, x, x⟩

/-- The port of a line side. -/
def portOf : Side → Port
  | .a => .a
  | .b => .b

/-- The line side of a port; none for the Maintenance Port. -/
def sideOf : Port → Option Side
  | .a => some .a
  | .b => some .b
  | .m => none

end Sys2Proof.Machine
end

