-- ==== Sys2Proof/Machine/State.lean ====
section
/-! DEFINITION. The state of the NRM-6424: every item the spec gives the device, block by block as the block diagram
of spec/00_scope.md lists them, and the queue of commands that are waiting. Plain data only. Numbers that the spec
counts are `Nat` with the range its rule states; sets of notices and whole words of a frame are bit vectors. -/

namespace Sys2Proof.Machine

/-! ## Port Interface -/

/-- The result codes of R176, in the order of their numbers. -/
inductive Result where
  | done | start | badFrame | unknown | notPermitted | badArg | notOwner
  | busy | full | notRequested | notGranted | notWorking | notItem | already
  | noAccess | incomplete | notInUse | zoneMix | empty | notPlanned | noTicket
deriving DecidableEq, Repr

/-- A staged answer (R175). The ATTN and FROZEN bits of its status byte are formed when it is shifted out (R176). -/
structure Answer where
  result : Result
  code   : Byte
  data   : Word
deriving DecidableEq, Repr

/-- A port's read position in a ring (R35, R139): a field of the record with the given sequence number, or past
newest. -/
inductive Cursor where
  | past
  | on (seq : Nat) (field : Nat)
deriving DecidableEq, Repr

/-- The interface state of one port (R173 to R179). -/
structure Interface where
  /-- chip select is asserted (R173) -/
  select   : Bool
  /-- frame bit count, 0-255 (R173); the edges of a frame are counted at its release (log 3) -/
  bitCount : Nat
  /-- void flag (R178) -/
  void     : Bool
  /-- the answer the frame under way shifts out, status byte first (R175) -/
  shiftOut : FrameWord
  /-- the staged answer (R175) -/
  staged   : Answer
  /-- history cursor (R35) -/
  history  : Cursor
  /-- log cursor (R139) -/
  log      : Cursor
deriving DecidableEq, Repr

/-! ## Signal Line Unit -/

/-- The roles of a signal line (R2). -/
inductive LineFunction where
  | plain | tach | gate | hold | lamp
deriving DecidableEq, Repr

/-- The direction of a PLAIN line (R2). -/
inductive Direction where
  | input | output
deriving DecidableEq, Repr

/-- The sensing mode of a TACH line (R2). -/
inductive Sensing where
  | driven | contact
deriving DecidableEq, Repr

/-- A line record (R2) with its pulse counter (R8) and its filtered level (R1). The sampled level of R2 is
`Line.sampledLevel`. -/
structure Line where
  function  : LineFunction
  direction : Direction
  /-- PLAIN level -/
  level     : Bool
  pullUp    : Bool
  float     : Bool
  sensing   : Sensing
  /-- the active level: HIGH is true -/
  polarity  : Bool
  wake      : Bool
  zone      : Fin 8
  side      : Side
  /-- the last level the filter accepted; none after a start until one is established (R9) -/
  filtered  : Option Bool
  /-- the last scan sample of a CONTACT TACH line; none until one is taken (R10) -/
  sample    : Option Bool
  /-- pulse count, 0-65535, 0 for a line that is not TACH (R8) -/
  count     : Nat
deriving DecidableEq, Repr

/-- The contact-scan timer with its two indices (R11). -/
structure ScanUnit where
  quietIndex : Nat
  parkIndex  : Nat
  /-- half milliseconds to the next scan; none while the timer is stopped -/
  timer      : Option Nat
  /-- input: the level each pin takes when it is excited (R10) -/
  contacts   : Pins
deriving DecidableEq, Repr

/-- The pins SL0-SL23 with the output freeze (R5, R7, R19). -/
structure PinUnit where
  /-- input: the level from outside on each pin (R7) -/
  input  : Pins
  /-- while frozen, what each pin is held at; none is undriven (R19) -/
  held   : Table (Option Bool) 24
  /-- the frozen flag (R19) -/
  frozen : Bool
deriving DecidableEq, Repr

/-! ## Epoch Pacer, Window Counter, Zone History -/

/-- Divider D and epoch millisecond count (R23). -/
structure Pacer where
  divider : Nat
  ms      : Nat
deriving DecidableEq, Repr

/-- Window length E, remaining count, loaded length and window sequence number (R28). -/
structure WindowCounter where
  length    : Nat
  remaining : Nat
  loaded    : Nat
  seq       : Nat
deriving DecidableEq, Repr

/-- The marker set (R33). -/
structure Markers where
  shift   : Bool
  park    : Bool
  service : Bool
  divider : Bool
  start   : Bool
deriving DecidableEq, Repr

/-- A window record (R34). -/
structure WindowRecord where
  seq     : Nat
  loaded  : Nat
  sums    : Table Nat 8
  markers : Markers
deriving DecidableEq, Repr

/-- What READ-HISTORY does past newest (R39). -/
inductive HistoryMode where
  | stop | cycle
deriving DecidableEq, Repr

/-- The ring, oldest first, the current window's sums and markers, and the mode (R32 to R34, R39). -/
structure ZoneHistory where
  ring    : List WindowRecord
  sums    : Table Nat 8
  markers : Markers
  mode    : HistoryMode
deriving DecidableEq, Repr

/-! ## Load Book -/

/-- The owner of a zone (R40). -/
inductive Owner where
  | nobody | a | b | both
deriving DecidableEq, Repr

/-- A load report (R44). -/
structure LoadReport where
  cls    : Nat
  hold   : Nat
  lapsed : Bool
deriving DecidableEq, Repr

/-- A zone's settings (R40) and its two load reports (R44). -/
structure ZoneBook where
  owner    : Owner
  fallback : Nat
  holdTime : Nat
  reportA  : LoadReport
  reportB  : LoadReport
deriving DecidableEq, Repr

/-- The zone settings with the reports, and the load weight table in sixteenths (R51). -/
structure LoadBook where
  zones   : Table ZoneBook 8
  weights : Table Nat 8
deriving DecidableEq, Repr

/-! ## Element Table, Wear Engine, Plan Engine -/

/-- The state of an element (R57); it is in use when this is other than IDLE (R183). -/
inductive ElementState where
  | idle | fresh | worn | due | suspect
deriving DecidableEq, Repr

/-- An element record: configuration part (R53), counting part and plan fields (R55). -/
structure Element where
  zone       : Fin 8
  tach       : Nat
  ppr        : Nat
  /-- G, sixty-fourths -/
  ratio      : Nat
  /-- reference line; none is absent (R54) -/
  reference  : Option Nat
  /-- K, sixty-fourths -/
  expected   : Nat
  /-- Tol, 256ths -/
  tolerance  : Nat
  /-- Y, sixteenths -/
  slipWeight : Nat
  /-- L, blocks -/
  limit      : Nat
  /-- M, blocks -/
  margin     : Nat
  wear       : Nat
  /-- F, 16384ths of a wear revolution -/
  carry      : Nat
  /-- Q -/
  residue    : Nat
  /-- A -/
  accumulator : Nat
  renewCount : Nat
  slipCount  : Nat
  state      : ElementState
  unfed      : Bool
  check      : Nat
  /-- R, sixteenths of a wear revolution per window -/
  rate       : Nat
  seeded     : Bool
  /-- T, windows -/
  projection : Nat
deriving DecidableEq, Repr

/-- An entry of the speed band table (R74). -/
structure Band where
  bound  : Nat
  factor : Nat
deriving DecidableEq, Repr

/-- Smoothing shift k, horizon H, due list and plan generation number (R86, R96 to R98). -/
structure Plan where
  shift      : Nat
  horizon    : Nat
  due        : List (Fin 64)
  generation : Nat
deriving DecidableEq, Repr

/-! ## Ticket Unit and Zone Hold Table -/

/-- The state of a ticket (R106). -/
inductive TicketState where
  | planned | awaiting | working | stalled
deriving DecidableEq, Repr

/-- The outcome of an item (R106). -/
inductive ItemOutcome where
  | pending | renewed | inspected
deriving DecidableEq, Repr

/-- One element of a ticket (R106). -/
structure Item where
  element : Fin 64
  outcome : ItemOutcome
deriving DecidableEq, Repr

/-- A ticket (R106). -/
structure Ticket where
  number     : Nat
  zone       : Fin 8
  state      : TicketState
  items      : List Item
  /-- grant timer, milliseconds -/
  timer      : Nat
  everWorked : Bool
  accessSeen : Bool
deriving DecidableEq, Repr

/-- The state of a hold record (R108). -/
inductive HoldState where
  | free | requested | held
deriving DecidableEq, Repr

/-- A zone's hold record (R108). -/
structure HoldRecord where
  state  : HoldState
  grantA : Bool
  grantB : Bool
  demand : Nat
deriving DecidableEq, Repr

/-- Ticket table, next ticket number, grant time in seconds, hold records, and the motion reports handed by the Wear
Engine and not yet taken (R81, R106 to R110, R120). -/
structure TicketUnit where
  table     : List Ticket
  next      : Nat
  grantTime : Nat
  holds     : Table HoldRecord 8
  reports   : Table Bool 8
deriving DecidableEq, Repr

/-! ## Service Log -/

/-- What became of an item (R134). -/
inductive LogOutcome where
  | renewed | inspected | notDone
deriving DecidableEq, Repr

/-- A service record (R134). -/
structure ServiceRecord where
  seq        : Nat
  element    : Fin 64
  ticket     : Nat
  outcome    : LogOutcome
  wear       : Nat
  renewCount : Nat
  window     : Nat
deriving DecidableEq, Repr

/-- The ring, oldest first, and the log sequence number (R135, R138). -/
structure ServiceLog where
  ring : List ServiceRecord
  seq  : Nat
deriving DecidableEq, Repr

/-! ## Notice Unit -/

/-- The sixteen notices, in the order of their numbers (R143). -/
inductive Notice where
  | worn | due | plan | slip | motion | holdReq | released | stall
  | lapse | overrun | access | woke | suspect | start | page | frame
deriving DecidableEq, Repr

/-- A set of notices, bit n for notice n (R186). -/
abbrev NoticeSet := BitVec 16

/-- A port's pending event notices and its mask (R144, R146). Its condition notices are `State.conditions`. -/
structure NoticeBox where
  events : NoticeSet
  mask   : NoticeSet
deriving DecidableEq, Repr

/-! ## State Controller -/

/-- The operating state (R155). -/
inductive OpState where
  | active | quiet | parked | retained
deriving DecidableEq, Repr

/-- A port's vote (R155). -/
inductive Vote where
  | run | pause | park
deriving DecidableEq, Repr

/-- The kind of a start (R168). -/
inductive StartKind where
  | cold | warm | soft
deriving DecidableEq, Repr

/-- Operating state, votes, fitted flags, start kind, retained-valid marker (R155) and what the supply monitor sees of
VMAIN, VKEEP and RSTN (R165, R167; log 14). -/
structure Control where
  op        : OpState
  votes     : PerPort Vote
  fittedA   : Bool
  fittedB   : Bool
  startKind : StartKind
  valid     : Bool
  /-- VMAIN is below its trip level -/
  vmainLow  : Bool
  /-- VKEEP is below its operating range -/
  vkeepLow  : Bool
  /-- RSTN is low -/
  rstnLow   : Bool
deriving DecidableEq, Repr

/-! ## The whole device -/

/-- The state of the device and the queue of commands that are waiting. -/
structure State where
  ports    : PerPort Interface
  notices  : PerPort NoticeBox
  lines    : Table Line 24
  scan     : ScanUnit
  pins     : PinUnit
  /-- blink clock, milliseconds within its cycle of 1000 (R18) -/
  blink    : Nat
  pacer    : Pacer
  window   : WindowCounter
  history  : ZoneHistory
  book     : LoadBook
  bands    : Table Band 8
  elements : Table Element 64
  plan     : Plan
  tickets  : TicketUnit
  log      : ServiceLog
  ctl      : Control
  /-- the model's own: the 1 ms base stands in the middle of a millisecond (log 4) -/
  half     : Bool
  /-- the model's own: picks a free value (log 10) -/
  fresh    : Nat
  /-- the commands that are waiting, the first to be taken at the head -/
  pending  : List Instr
deriving DecidableEq, Repr

/-- Why a step could stop with a fault. The spec gives the device none: a command it does not carry out is answered
by a result code (R176). No constructor. -/
inductive Fault where
deriving DecidableEq, Repr

/-- Why a step could be refused by the model. -/
inductive Refusal where
  /-- Raised by `exec` for a row without a meaning, of which there is none. Safe: nothing is claimed of it. -/
  | notModelled (mnemonic : String)
deriving DecidableEq, Repr

/-! ## The values after a COLD start -/

/-- The START answer of R178 for the start kind coded `kind`. -/
def startAnswer (kind : Word) : Answer := ⟨.start, 0x00, kind⟩

/-- A line record after a COLD start (R2, R22). -/
def Line.cold : Line :=
  { function := .plain, direction := .input, level := true, pullUp := true, float := false, sensing := .driven,
    polarity := true, wake := false, zone := 0, side := .a, filtered := none, sample := none, count := 0 }

/-- A lapsed report with class 0 (R52). -/
def LoadReport.cold : LoadReport := ⟨0, 0, true⟩

/-- A zone's settings and reports after a COLD start (R40, R52). -/
def ZoneBook.cold : ZoneBook := ⟨.nobody, 7, 30, .cold, .cold⟩

/-- The record of element `n` after a COLD start (R85). -/
def Element.cold (n : Fin 64) : Element :=
  { zone := 0, tach := 0, ppr := 1, ratio := 64, reference := none, expected := 0, tolerance := 1, slipWeight := 16,
    limit := 1, margin := 0, wear := 0, carry := 0, residue := 0, accumulator := 0, renewCount := 0, slipCount := 0,
    state := .idle, unfed := false, check := n.val + 338, rate := 0, seeded := false, projection := 65535 }

/-- A free zone (R108). -/
def HoldRecord.cold : HoldRecord := ⟨.free, false, false, 0⟩

/-- The empty marker set (R33). -/
def Markers.none : Markers := ⟨false, false, false, false, false⟩

/-- The interface state of a port after a start of the kind coded `kind` (R179), chip select released. -/
def Interface.cold (kind : Word) : Interface :=
  { select := false, bitCount := 0, void := false, shiftOut := 0, staged := startAnswer kind, history := .past,
    log := .past }

/-- A port's notices after a start, START alone pending and every notice in the mask (R154). -/
def NoticeBox.started : NoticeBox := ⟨0x2000, 0xFFFF⟩

/-- The machine right after reset: the state a COLD start leaves at first power (R167, R169), nothing waiting. -/
def State.reset : State :=
  { ports := .all (.cold 0)
    notices := .all .started
    lines := .ofFn fun _ => .cold
    scan := ⟨3, 11, some 1, 0⟩
    pins := ⟨0, .ofFn fun _ => none, false⟩
    blink := 0
    pacer := ⟨999, 0⟩
    window := ⟨3600, 3600, 3600, 0⟩
    history := ⟨[], .ofFn fun _ => 0, .none, .stop⟩
    book := ⟨.ofFn fun _ => .cold, ⟨Config.coldWeights, rfl⟩⟩
    bands := ⟨List.zipWith Band.mk Config.coldBounds Config.coldFactors, rfl⟩
    elements := .ofFn .cold
    plan := ⟨3, 168, [], 0⟩
    tickets := ⟨[], 1, 600, .ofFn fun _ => .cold, .ofFn fun _ => false⟩
    log := ⟨[], 0⟩
    ctl := ⟨.active, .all .run, true, true, .cold, true, false, false, false⟩
    half := false
    fresh := 0
    pending := [] }

end Sys2Proof.Machine
end

