-- ==== Sys2Proof/Machine/Operands.lean ====
section
/-! DEFINITION. Every operand form and every encoding of spec/10 (R180 to R187): how a selector or a value names a
record or a setting, and the number each state, flag and outcome is coded by in an answer. A value that names nothing
gives `none`, which the command's rule refuses BAD-ARG. -/

namespace Sys2Proof.Machine

/-! ## What selectors and values name -/

/-- The record numbered `k` of a table of `n`; none outside it. -/
def finOf (n k : Nat) : Option (Fin n) := if h : k < n then some ⟨k, h⟩ else none

/-- `v` if it lies from `lo` to `hi`. -/
def within (lo hi v : Nat) : Option Nat := if lo ≤ v ∧ v ≤ hi then some v else none

/-- `v` clamped up to `lo`, if it is at most `hi` (CONVENTIONS, "Clamped"). -/
def clampedUp (lo hi v : Nat) : Option Nat := if v ≤ hi then some (max lo v) else none

/-- A flag coded 0 or 1 (R184, R185). -/
def flagOf : Nat → Option Bool
  | 0 => some false
  | 1 => some true
  | _ => none

/-- A line function (R184, field 0). -/
def functionOf : Nat → Option LineFunction
  | 0 => some .plain
  | 1 => some .tach
  | 2 => some .gate
  | 3 => some .hold
  | 4 => some .lamp
  | _ => none

/-- A direction (R184, field 1). -/
def directionOf : Nat → Option Direction
  | 0 => some .input
  | 1 => some .output
  | _ => none

/-- A sensing mode (R184, field 5). -/
def sensingOf : Nat → Option Sensing
  | 0 => some .driven
  | 1 => some .contact
  | _ => none

/-- An owner side (R184, field 9). -/
def ownerSideOf : Nat → Option Side
  | 0 => some .a
  | 1 => some .b
  | _ => none

/-- A zone owner (R182, item 6). -/
def ownerOf : Nat → Option Owner
  | 0 => some .nobody
  | 1 => some .a
  | 2 => some .b
  | 3 => some .both
  | _ => none

/-- A history mode (R182, item 5). -/
def historyModeOf : Nat → Option HistoryMode
  | 0 => some .stop
  | 1 => some .cycle
  | _ => none

/-- A vote (R186). -/
def voteOf : Nat → Option Vote
  | 0 => some .run
  | 1 => some .pause
  | 2 => some .park
  | _ => none

/-- The target of PAGE (R181). -/
def pageTargetOf : Nat → Option Port
  | 0 => some .a
  | 1 => some .b
  | 2 => some .m
  | _ => none

/-- A reference line as written or disturbed: 255 makes it absent (R183). -/
def referenceOf (v : Nat) : Option Nat := if v = 255 then none else some v

/-! ## The numbers of R176 and R182 to R187 -/

/-- 1 for yes (R185). -/
def flagCode (b : Bool) : Nat := if b then 1 else 0

/-- Result codes (R176). -/
def Result.code : Result → Nat
  | .done => 0
  | .start => 1
  | .badFrame => 2
  | .unknown => 3
  | .notPermitted => 4
  | .badArg => 5
  | .notOwner => 6
  | .busy => 7
  | .full => 8
  | .notRequested => 9
  | .notGranted => 10
  | .notWorking => 11
  | .notItem => 12
  | .already => 13
  | .noAccess => 14
  | .incomplete => 15
  | .notInUse => 16
  | .zoneMix => 17
  | .empty => 18
  | .notPlanned => 19
  | .noTicket => 20

/-- Notice numbers (R143). -/
def Notice.number : Notice → Nat
  | .worn => 0
  | .due => 1
  | .plan => 2
  | .slip => 3
  | .motion => 4
  | .holdReq => 5
  | .released => 6
  | .stall => 7
  | .lapse => 8
  | .overrun => 9
  | .access => 10
  | .woke => 11
  | .suspect => 12
  | .start => 13
  | .page => 14
  | .frame => 15

/-- The set that holds one notice (R186). -/
def Notice.bit (n : Notice) : NoticeSet := BitVec.twoPow 16 n.number

/-- Line function codes (R184). -/
def LineFunction.code : LineFunction → Nat
  | .plain => 0
  | .tach => 1
  | .gate => 2
  | .hold => 3
  | .lamp => 4

/-- Direction codes (R184). -/
def Direction.code : Direction → Nat
  | .input => 0
  | .output => 1

/-- Sensing mode codes (R184). -/
def Sensing.code : Sensing → Nat
  | .driven => 0
  | .contact => 1

/-- Owner side codes (R184). -/
def ownerSideCode : Side → Nat
  | .a => 0
  | .b => 1

/-- A sampled level: 0, 1, or 2 for NONE (R184, field 10). -/
def sampledCode : Option Bool → Nat
  | none => 2
  | some b => flagCode b

/-- Owner codes (R182). -/
def Owner.code : Owner → Nat
  | .nobody => 0
  | .a => 1
  | .b => 2
  | .both => 3

/-- History mode codes (R182). -/
def HistoryMode.code : HistoryMode → Nat
  | .stop => 0
  | .cycle => 1

/-- Element state codes (R183, field 10). -/
def ElementState.code : ElementState → Nat
  | .idle => 0
  | .fresh => 1
  | .worn => 2
  | .due => 3
  | .suspect => 4

/-- A reference line as read: 255 for absent (R60, R183). -/
def referenceCode : Option Nat → Nat
  | none => 255
  | some r => r

/-- Hold state codes (R185). -/
def HoldState.code : HoldState → Nat
  | .free => 0
  | .requested => 1
  | .held => 2

/-- Ticket state codes (R185). -/
def TicketState.code : TicketState → Nat
  | .planned => 0
  | .awaiting => 1
  | .working => 2
  | .stalled => 3

/-- Item outcome codes (R185). -/
def ItemOutcome.code : ItemOutcome → Nat
  | .pending => 0
  | .renewed => 1
  | .inspected => 2

/-- Outcome codes of a service record (R187). -/
def LogOutcome.code : LogOutcome → Nat
  | .renewed => 0
  | .inspected => 1
  | .notDone => 2

/-- Operating and requested state codes (R186). -/
def OpState.code : OpState → Nat
  | .active => 0
  | .quiet => 1
  | .parked => 2
  | .retained => 3

/-- Vote codes (R186). -/
def Vote.code : Vote → Nat
  | .run => 0
  | .pause => 1
  | .park => 2

/-- Start kind codes (R178, R186). -/
def StartKind.code : StartKind → Nat
  | .cold => 0
  | .warm => 1
  | .soft => 2

/-- A marker set as read: bit 0 SHIFT, 1 PARK, 2 SERVICE, 3 DIVIDER, 4 START (R187). -/
def Markers.code (k : Markers) : Nat :=
  flagCode k.shift + 2 * flagCode k.park + 4 * flagCode k.service + 8 * flagCode k.divider + 16 * flagCode k.start

/-! ## Answers -/

/-- The result and the data of an answer (R175). -/
structure Reply where
  result : Result
  data   : Word
deriving DecidableEq, Repr

/-- What a command leaves: the state, and its reply; no reply where the command stages none of its own (R171). -/
structure Taken where
  state : State
  reply : Option Reply
deriving DecidableEq, Repr

/-- Taken and answered DONE with data (R175). -/
def answered (s : State) (data : Nat) : Taken := ⟨s, some ⟨.done, BitVec.ofNat 32 data⟩⟩

/-- Answered with a result other than DONE: data 0, and nothing changes (R175, R176). -/
def declined (s : State) (r : Result) : Taken := ⟨s, some ⟨r, 0⟩⟩

/-- Runs `f` on what an operand names, or refuses BAD-ARG where it names nothing (R181). -/
def orBadArg {α : Type} (s : State) (x : Option α) (f : α → Taken) : Taken :=
  match x with
  | some v => f v
  | none => declined s .badArg

end Sys2Proof.Machine
end

