-- ==== Sys2Proof/Machine/Flags.lean ====
section
/-! DEFINITION. Every condition and level the spec defines by the state as it stands at the moment it is read: sampled
level and guard (R2, R15), owners and effective class (R42, R50), hold assertion, beacon and pin drive (R5, R17 to
R21), element conditions, the condition notices and the attention line (R145, R148), and the requested state (R158,
R159). The spec re-derives each at every change of what it reads, so none is stored (log 13). -/

namespace Sys2Proof.Machine

/-! ## Lines -/

/-- The sampled level (R2): the filtered level of a DRIVEN TACH or GATE line, the last scan sample of a CONTACT TACH
line, NONE for the other functions. -/
def Line.sampledLevel (l : Line) : Option Bool :=
  match l.function, l.sensing with
  | .tach, .driven => l.filtered
  | .tach, .contact => l.sample
  | .gate, _ => l.filtered
  | .plain, _ => none
  | .hold, _ => none
  | .lamp, _ => none

/-- The zone a GATE line is active in (R15); none for any other line. -/
def Line.activeZone (l : Line) : Option (Fin 8) :=
  if l.function = .gate ∧ l.sampledLevel = some l.polarity then some l.zone else none

/-- A line whose pin is an input (R5, R19): PLAIN with direction IN, TACH or GATE. -/
def Line.isInput (l : Line) : Bool :=
  match l.function with
  | .plain => l.direction = .input
  | .tach => true
  | .gate => true
  | .hold => false
  | .lamp => false

/-- A CONTACT TACH line (R10). -/
def Line.isContact (l : Line) : Bool := l.function = .tach && l.sensing = .contact

/-- A zone's guard is open while a GATE line of the zone is active (R15). -/
def State.guardOpen (s : State) (z : Fin 8) : Bool := s.lines.any fun l => l.activeZone = some z

/-- A zone has a guard while a GATE line has that zone setting (R15). -/
def State.hasGuard (s : State) (z : Fin 8) : Bool := s.lines.any fun l => l.function = .gate && l.zone = z

/-! ## Zones -/

/-- Whether a line port is an owner (R40). -/
def Owner.has : Owner → Side → Bool
  | .nobody, _ => false
  | .a, .a => true
  | .a, .b => false
  | .b, .a => false
  | .b, .b => true
  | .both, _ => true

/-- A zone's owner setting (R40). -/
def State.owner (s : State) (z : Fin 8) : Owner := (s.book.zones.get z).owner

/-- The load report of a line port (R44). -/
def ZoneBook.report (b : ZoneBook) : Side → LoadReport
  | .a => b.reportA
  | .b => b.reportB

/-- The recorded grant of a line port (R108). -/
def HoldRecord.grant (h : HoldRecord) : Side → Bool
  | .a => h.grantA
  | .b => h.grantB

/-- Whether every owner of a zone has a recorded grant (R108, R115). -/
def Owner.allGranted (o : Owner) (h : HoldRecord) : Bool :=
  (!o.has .a || h.grantA) && (!o.has .b || h.grantB)

/-- The class of one owner alone (R50). -/
def ZoneBook.classOf (b : ZoneBook) (r : LoadReport) : Nat := if r.lapsed then b.fallback else r.cls

/-- The effective class of a zone (R50). -/
def ZoneBook.effectiveClass (b : ZoneBook) : Nat :=
  match b.owner with
  | .nobody => b.fallback
  | .a => b.classOf b.reportA
  | .b => b.classOf b.reportB
  | .both =>
    match b.reportA.lapsed, b.reportB.lapsed with
    | false, false => max b.reportA.cls b.reportB.cls
    | false, true => b.reportA.cls
    | true, false => b.reportB.cls
    | true, true => b.fallback

/-- The load weight of a class, W0 to W7 (R51). -/
def LoadBook.weight (k : LoadBook) (cls : Nat) : Nat := k.weights.data.getD cls 0

/-! ## Elements and tickets -/

/-- In use and not SUSPECT: accrued, smoothed and planned (R71, R87, R96). -/
def Element.accounted (e : Element) : Bool := e.state != .idle && e.state != .suspect

/-- In use: any state but IDLE (R183). -/
def Element.inUse (e : Element) : Bool := e.state != .idle

/-- A ticket that counts toward its zone's demand (R106). -/
def Ticket.active (t : Ticket) : Bool := t.state = .awaiting || t.state = .working

/-- The ticket that bears a number (R106). -/
def State.ticket? (s : State) (n : Nat) : Option Ticket := s.tickets.table.find? fun t => t.number = n

/-- Whether an element is an item of a ticket (R106). -/
def Ticket.names (t : Ticket) (e : Fin 64) : Bool := t.items.any fun i => i.element = e

/-- Whether an element is an item of any ticket in the table (R65, R68, R107). -/
def State.onTicket (s : State) (e : Fin 64) : Bool := s.tickets.table.any fun t => t.names e

/-- A ticket of the zone is WORKING (R18). -/
def State.workingIn (s : State) (z : Fin 8) : Bool :=
  s.tickets.table.any fun t => t.zone = z && t.state = .working

/-- An element of the zone is DUE (R18, R102). -/
def State.dueIn (s : State) (z : Fin 8) : Bool := s.elements.any fun e => e.zone = z && e.state = .due

/-! ## Pins -/

/-- The assertion of a HOLD line (R17). -/
def State.holdAsserted (s : State) (l : Line) : Bool :=
  (s.tickets.holds.get l.zone).state != .free && (s.owner l.zone).has l.side

/-- A LAMP line is lit (R18): steadily while a ticket of its zone is WORKING, else in the first 500 ms of each cycle
while an element of its zone is DUE. -/
def State.beaconLit (s : State) (z : Fin 8) : Bool := s.workingIn z || (s.dueIn z && s.blink < 500)

/-- The active level if `on`, else the inactive one (R2). -/
def Line.levelFor (l : Line) (on : Bool) : Bool := if on then l.polarity else !l.polarity

/-- The drive that a line's function and settings give (R5): a level, or none for a pin not driven. -/
def State.settingsDrive (s : State) (l : Line) : Option Bool :=
  match l.function with
  | .plain => if l.direction = .output ∧ l.float = false then some l.level else none
  | .tach => none
  | .gate => none
  | .hold => if l.float then none else some (l.levelFor (s.holdAsserted l))
  | .lamp => if l.float then none else some (l.levelFor (s.beaconLit l.zone))

/-- What a pin is driven to: undriven in RETAINED (R21), held while frozen (R19), else as its settings give (R5). -/
def State.pinDrive (s : State) (i : Fin 24) : Option Bool :=
  if s.ctl.op = .retained then none
  else if s.pins.frozen then s.pins.held.get i
  else s.settingsDrive (s.lines.get i)

/-- The weak pull-up of a pin: per its setting on an input (R5), off otherwise and in RETAINED (R21; log 16). -/
def State.pinPullUp (s : State) (i : Fin 24) : Bool :=
  s.ctl.op != .retained && (s.lines.get i).isInput && (s.lines.get i).pullUp

/-- The level READ-LINES returns for a line (R7). -/
def State.lineLevel (s : State) (i : Fin 24) : Bool :=
  match (s.lines.get i).isContact, (s.lines.get i).sample, s.pinDrive i with
  | true, some b, _ => b
  | true, none, _ => s.pins.input.getLsbD i
  | false, _, some b => b
  | false, _, none => s.pins.input.getLsbD i

/-! ## Notices -/

/-- At least one element is DUE (R58, R145). -/
def State.anyDue (s : State) : Bool := s.elements.any fun e => e.state = .due

/-- At least one element is SUSPECT (R58, R145). -/
def State.anySuspect (s : State) : Bool := s.elements.any fun e => e.state = .suspect

/-- The HOLD-REQ condition at a line port (R109). -/
def State.holdRequested (s : State) (side : Side) : Bool :=
  (List.finRange 8).any fun z =>
    (s.tickets.holds.get z).state = .requested && (s.owner z).has side && !(s.tickets.holds.get z).grant side

/-- The LAPSE condition at a line port (R49). -/
def State.lapseHolds (s : State) (side : Side) : Bool :=
  s.book.zones.any fun b => b.owner.has side && (b.report side).lapsed

/-- A notice if its condition holds. -/
def Notice.when (n : Notice) (b : Bool) : NoticeSet := if b then n.bit else 0

/-- The condition notices that stand at a port (R145). -/
def State.conditions (s : State) (p : Port) : NoticeSet :=
  Notice.due.when s.anyDue |||
  match sideOf p with
  | some side => Notice.holdReq.when (s.holdRequested side) ||| Notice.lapse.when (s.lapseHolds side)
  | none => Notice.suspect.when s.anySuspect

/-- A port's pending set (R144, R145); lost in RETAINED (R153). -/
def State.pendingSet (s : State) (p : Port) : NoticeSet :=
  if s.ctl.op = .retained then 0 else (s.notices.get p).events ||| s.conditions p

/-- A port's attention line is asserted (R148); it is also the ATTN bit (R149). -/
def State.attention (s : State) (p : Port) : Bool := s.pendingSet p &&& (s.notices.get p).mask != 0

/-- The event notices of R143; the other four are conditions. -/
def eventNotices : NoticeSet := ~~~(Notice.due.bit ||| Notice.holdReq.bit ||| Notice.lapse.bit ||| Notice.suspect.bit)

/-! ## Requested state -/

/-- The counted votes (R158). -/
def Control.countedVotes (c : Control) : List Vote :=
  match c.fittedA, c.fittedB with
  | true, true => [c.votes.a, c.votes.b]
  | true, false => [c.votes.a]
  | false, true => [c.votes.b]
  | false, false => [c.votes.m]

/-- The requested state (R158). -/
def Control.requested (c : Control) : OpState :=
  if c.countedVotes.any (· = .run) then .active
  else if c.countedVotes.all (· = .park) then .parked
  else .quiet

/-- A requested PARKED is held back (R159). -/
def State.heldBack (s : State) : Bool :=
  s.tickets.table.any Ticket.active || s.tickets.holds.any fun h => h.state != .free

/-- The state a bringing arrives at (R159, R160). -/
def State.broughtTo (s : State) : OpState :=
  if s.ctl.requested = .parked ∧ s.heldBack = true then .quiet else s.ctl.requested

/-- The Epoch Pacer and the timers run: ACTIVE or QUIET (R23). -/
def State.running (s : State) : Bool := s.ctl.op = .active || s.ctl.op = .quiet

end Sys2Proof.Machine
end

