-- ==== Sys2Proof/Machine/Ops.lean ====
section
/-! DEFINITION. The named operations that several blocks share: raising a notice (R144), a wrapping and a saturating
count, a ring with its cursors (R34 to R36, R138 to R140), the tickets of a zone, a write of a line record with the
gate and the freeze rules that follow it (R3, R15, R16, R19), and the append of a service record (R138). -/

namespace Sys2Proof.Machine

/-! ## Notices -/

/-- Raises an event notice at a port (R144). -/
def State.raiseAt (s : State) (n : Notice) (p : Port) : State :=
  { s with notices := s.notices.modify p fun b => { b with events := b.events ||| n.bit } }

/-- Raises an event notice at all three ports (R144). -/
def State.raiseAll (s : State) (n : Notice) : State :=
  { s with notices := s.notices.map fun b => { b with events := b.events ||| n.bit } }

/-- Raises an event notice at all three ports if something happened. -/
def State.raiseIf (s : State) (n : Notice) (happened : Bool) : State := if happened then s.raiseAll n else s

/-- Raises an event notice at each owner port of a zone, the owners as they stand (R143). -/
def State.raiseOwners (s : State) (n : Notice) (z : Fin 8) : State :=
  let s1 := if (s.owner z).has .a then s.raiseAt n .a else s
  if (s.owner z).has .b then s1.raiseAt n .b else s1

/-! ## Counts -/

/-- The next number of a 32-bit sequence, 0 following 4,294,967,295 (R30, R135). -/
def nextSequence (n : Nat) : Nat := (n + 1) % 4294967296

/-- A count that stays at `top` (CONVENTIONS, "Saturating"). -/
def saturate (top n : Nat) : Nat := min top n

/-! ## Rings and cursors -/

/-- The ring with a record appended at the newest end, the oldest dropped if it was full (R34, R138). -/
def pushRing {α : Type} (capacity : Nat) (ring : List α) (r : α) : List α :=
  (if ring.length < capacity then ring else ring.tail) ++ [r]

/-- The sequence number of the record that an append drops (R36, R140). -/
def droppedBy {α : Type} (capacity : Nat) (seqOf : α → Nat) (ring : List α) : Option Nat :=
  if ring.length < capacity then none else ring.head?.map seqOf

/-- Where an append leaves a cursor (R35, R36, R139, R140): past newest comes to rest on the new record; on the
dropped record moves to field 0 of the new oldest; any other stays. -/
def Cursor.onAppend (newest oldest : Nat) (dropped : Option Nat) : Cursor → Cursor
  | .past => .on newest 0
  | .on q f => if dropped = some q then .on oldest 0 else .on q f

/-- The sequence number of the oldest record, `d` for an empty ring. -/
def oldestOf {α : Type} (seqOf : α → Nat) (ring : List α) (d : Nat) : Nat :=
  match ring with
  | [] => d
  | r :: _ => seqOf r

/-- The record of the ring that follows the one numbered `q`, if any. -/
def newerThan {α : Type} (seqOf : α → Nat) (ring : List α) (q : Nat) : Option Nat :=
  match ring.dropWhile fun r => seqOf r != q with
  | _ :: r :: _ => some (seqOf r)
  | _ => none

/-- The cursor after a field was read (R35, R139): the next field, field 0 of the next newer record, or past newest. -/
def advanceCursor {α : Type} (seqOf : α → Nat) (lastField : Nat) (ring : List α) (q f : Nat) : Cursor :=
  if f < lastField then .on q (f + 1)
  else match newerThan seqOf ring q with
    | some q' => .on q' 0
    | none => .past

/-- The cursor on field 0 of the oldest record, past newest on an empty ring (R37, R141). -/
def rewound {α : Type} (seqOf : α → Nat) (ring : List α) : Cursor :=
  match ring with
  | [] => .past
  | r :: _ => .on (seqOf r) 0

/-- The position read: the field index, or `pastIndex` past newest (R35, R139). -/
def Cursor.index (pastIndex : Nat) : Cursor → Nat
  | .past => pastIndex
  | .on _ f => f

/-! ## Tickets of a zone and hold records -/

/-- Rewrites every ticket of a zone. -/
def State.mapZoneTickets (s : State) (z : Fin 8) (f : Ticket → Ticket) : State :=
  { s with tickets.table := s.tickets.table.map fun t => if t.zone = z then f t else t }

/-- Rewrites the ticket that bears a number. -/
def State.mapTicket (s : State) (n : Nat) (f : Ticket → Ticket) : State :=
  { s with tickets.table := s.tickets.table.map fun t => if t.number = n then f t else t }

/-- Rewrites a zone's hold record. -/
def State.mapHold (s : State) (z : Fin 8) (f : HoldRecord → HoldRecord) : State :=
  { s with tickets.holds := s.tickets.holds.modify z f }

/-- A hold record with one line port's grant written (R115, R117). -/
def HoldRecord.withGrant (h : HoldRecord) (side : Side) (b : Bool) : HoldRecord :=
  match side with
  | .a => { h with grantA := b }
  | .b => { h with grantB := b }

/-- A ticket entering WORKING (R116). -/
def Ticket.enterWorking (t : Ticket) (guardOpen : Bool) : Ticket :=
  { t with state := .working, timer := 0, everWorked := true, accessSeen := guardOpen }

/-- A ticket entering AWAITING with its grant timer loaded; access-seen is cleared (R106, R113, R117). -/
def Ticket.enterAwaiting (t : Ticket) (ms : Nat) : Ticket :=
  { t with state := .awaiting, timer := ms, accessSeen := false }

/-- A ticket entering STALLED with its timer at 0; access-seen is cleared (R106, R118, R132). -/
def Ticket.enterStalled (t : Ticket) : Ticket := { t with state := .stalled, timer := 0, accessSeen := false }

/-- The time a grant timer is loaded with, in milliseconds (R113). -/
def State.grantMs (s : State) : Nat := 1000 * s.tickets.grantTime

/-- Takes a zone's WORKING tickets back to AWAITING, their timers loaded afresh (R117, R120). -/
def State.dropWorking (s : State) (z : Fin 8) : State :=
  s.mapZoneTickets z fun t => if t.state = .working then t.enterAwaiting s.grantMs else t

/-- A zone becomes HELD and its AWAITING tickets WORKING (R116). -/
def State.makeHeld (s : State) (z : Fin 8) : State :=
  let s1 := s.mapHold z fun h => { h with state := .held }
  s1.mapZoneTickets z fun t => if t.state = .awaiting then t.enterWorking (s.guardOpen z) else t

/-! ## Lines -/

/-- A GATE line becomes active in a zone (R16). -/
def State.gateOpened (s : State) (z : Fin 8) : State :=
  if (s.tickets.holds.get z).state = .held then
    s.mapZoneTickets z fun t => if t.state = .working then { t with accessSeen := true } else t
  else s.raiseAll .access

/-- Writes a line record; a held pin whose line becomes an input is released while frozen (R19). -/
def State.writeLine (s : State) (i : Fin 24) (l : Line) : State :=
  { s with
    lines := s.lines.set i l
    pins.held := if s.pins.frozen && l.isInput then s.pins.held.set i none else s.pins.held }

/-- Writes a line record and takes the gate that the write makes active in a zone it was not active in (R15, R16). -/
def State.writeLineGate (s : State) (i : Fin 24) (l : Line) : State :=
  match l.activeZone with
  | some z =>
    if (s.lines.get i).activeZone = some z then s.writeLine i l else (s.writeLine i l).gateOpened z
  | none => s.writeLine i l

/-- Counts a pulse on a line; at a full counter the pulse is lost and OVERRUN is raised (R8). -/
def State.countPulse (s : State) (i : Fin 24) : State :=
  if (s.lines.get i).count < Config.countTop then
    { s with lines := s.lines.modify i fun l => { l with count := l.count + 1 } }
  else s.raiseAt .overrun .m

/-! ## Service Log -/

/-- Appends a service record with the next log sequence number, with the drop and the cursor moves of R138 to R140;
the record carries the window sequence number as it stands (R134, R135). -/
def State.appendLog (s : State) (e : Fin 64) (ticket : Nat) (o : LogOutcome) (wear renewals : Nat) : State :=
  let seq := nextSequence s.log.seq
  let r : ServiceRecord := ⟨seq, e, ticket, o, wear, renewals, s.window.seq⟩
  let ring := pushRing Config.logCapacity s.log.ring r
  let dropped := droppedBy Config.logCapacity ServiceRecord.seq s.log.ring
  let oldest := oldestOf ServiceRecord.seq ring seq
  { s with
    log := ⟨ring, seq⟩
    ports := s.ports.map fun i => { i with log := i.log.onAppend seq oldest dropped } }

end Sys2Proof.Machine
end

