-- ==== Sys2Proof/Machine/WearOps.lean ====
section
/-! DEFINITION. The arithmetic of one element: the state derived from its wear (R57), its projection (R92), its rate
(R88, R89), its check word (R83), the ranges SET-ELEMENT accepts (R61, R66), and the accrual of one epoch (R72 to
R80). Every product and sum is exact (R82). -/

namespace Sys2Proof.Machine

/-- The state of an in-use element that is not SUSPECT (R57). -/
def derivedState (wear limit margin : Nat) : ElementState :=
  if limit * Config.block ≤ wear then .due
  else if limit * Config.block ≤ wear + margin * Config.block then .worn
  else .fresh

/-- The projection T (R92). -/
def projectionOf (wear limit rate : Nat) : Nat :=
  if limit * Config.block ≤ wear then 0
  else if rate = 0 then Config.projectionTop
  else min ((16 * (limit * Config.block - wear) + rate - 1) / rate) Config.projectionTop

/-- The rate R smoothed toward 16Δ by the shift k (R89), the step rounded toward zero. -/
def smoothedRate (rate delta k : Nat) : Nat :=
  if rate ≤ 16 * delta then rate + (16 * delta - rate) / 2 ^ k else rate - (rate - 16 * delta) / 2 ^ k

/-- The two 16-bit halves of a number, added (R83). -/
def halves (n : Nat) : Nat := n % 65536 + n / 65536 % 65536

/-- The sum of R83, modulo 65536. -/
def Element.sum (e : Element) (n : Fin 64) : Nat :=
  (n.val + (e.zone.val + e.tach + e.ppr + e.ratio + e.expected + e.tolerance + e.slipWeight)
    + referenceCode e.reference + (halves e.limit + halves e.margin + halves e.wear)) % 65536

/-- The record with its check word recomputed (R83). -/
def Element.checked (e : Element) (n : Fin 64) : Element := { e with check := e.sum n }

/-- The record with its projection recomputed (R92, R93). -/
def Element.projected (e : Element) : Element := { e with projection := projectionOf e.wear e.limit e.rate }

/-- Every configuration field lies in the range SET-ELEMENT accepts, K allowed at 0 (R66, R70). -/
def Element.inRange (e : Element) : Bool :=
  decide (e.tach ≤ 23) && (decide (1 ≤ e.ppr) && decide (e.ppr ≤ 255)) &&
  (decide (1 ≤ e.ratio) && decide (e.ratio ≤ 4095)) &&
  (match e.reference with
    | none => true
    | some r => decide (r ≤ 23)) &&
  decide (e.expected ≤ 4095) && (decide (1 ≤ e.tolerance) && decide (e.tolerance ≤ 255)) &&
  (decide (16 ≤ e.slipWeight) && decide (e.slipWeight ≤ 255)) &&
  (decide (1 ≤ e.limit) && decide (e.limit ≤ 1048575)) && decide (e.margin ≤ 1048575)

/-- What the Signal Line Unit hands for one line at a close (R12). -/
structure Handed where
  tach  : Bool
  count : Nat
deriving DecidableEq, Repr

/-- The pulses an element gets from its tach line (R72). -/
def Handed.pulses (h : Handed) : Nat := if h.tach then h.count else 0

/-- The handoff for a line number (R12); for a number above 23, which names no line, a free value (log 10). -/
def State.handed (s : State) (n : Nat) : Handed :=
  match finOf 24 n with
  | some i => ⟨decide ((s.lines.get i).function = .tach), (s.lines.get i).count⟩
  | none => ⟨Config.strayTach n s.fresh, (Config.strayCount n s.fresh).toNat⟩

/-- The handoff for the reference line, while the slip part is present: while it names a line, 0 to 23 (R54). -/
def State.handedReference (s : State) (reference : Option Nat) : Option Handed :=
  match reference with
  | none => none
  | some r => (finOf 24 r).map fun i => ⟨decide ((s.lines.get i).function = .tach), (s.lines.get i).count⟩

/-- The speed factor S (R73): of the first band whose bound rev64 does not exceed, else of band 7. -/
def speedFactor (bands : Table Band 8) (rev64 : Nat) : Nat :=
  match bands.data.find? fun b => rev64 ≤ b.bound with
  | some b => b.factor
  | none => (bands.get 7).factor

/-- The departure |Ex − P| (R76). -/
def departure (ex p : Nat) : Nat := if p ≤ ex then ex - p else p - ex

/-- Whether the epoch is a slip epoch (R76). -/
def Element.slips (e : Element) (own : Handed) (reference : Option Handed) : Bool :=
  match reference with
  | none => false
  | some r =>
    own.tach && r.tach && decide (8 ≤ r.count * e.expected / 64) &&
    decide (r.count * e.expected / 64 * e.tolerance < departure (r.count * e.expected / 64) own.pulses * 256)

/-- What one close does to one element: its record, its increment I, and what it reports. -/
structure Accrued where
  element   : Element
  increment : Nat
  moved     : Bool
  slip      : Bool
  worn      : Bool
deriving DecidableEq, Repr

/-- Element revolutions of the epoch in sixty-fourths (R72). -/
def Element.rev64 (e : Element) (pulses : Nat) : Nat := (pulses * e.ratio + e.residue) / e.ppr

/-- The base wear of the epoch (R75), weighted by Y in a slip epoch (R77). -/
def Element.base (e : Element) (bands : Table Band 8) (weight pulses : Nat) (slip : Bool) : Nat :=
  let base := e.rev64 pulses * weight * speedFactor bands (e.rev64 pulses)
  if slip then base * e.slipWeight / 16 else base

/-- The accrual of one element at a close (R72 to R80). -/
def Element.accrue (e : Element) (n : Fin 64) (bands : Table Band 8) (weight : Nat) (own : Handed)
    (reference : Option Handed) : Accrued :=
  let slip := e.slips own reference
  let base := e.base bands weight own.pulses slip
  let increment := (base + e.carry) / Config.carryUnit
  let wear := saturate Config.wearTop (e.wear + increment)
  let state := derivedState wear e.limit e.margin
  let counted : Element :=
    { e with
      residue := (own.pulses * e.ratio + e.residue) % e.ppr
      carry := (base + e.carry) % Config.carryUnit
      wear := wear
      accumulator := saturate Config.accumulatorTop (e.accumulator + increment)
      slipCount := if slip then saturate Config.countTop (e.slipCount + 1) else e.slipCount
      state := state
      unfed := !own.tach
      projection := if state = e.state then e.projection else projectionOf wear e.limit e.rate }
  { element := counted.checked n
    increment := increment
    moved := decide (0 < own.pulses)
    slip := slip
    worn := decide (state = .worn) && decide (e.state ≠ .worn) }

/-- The pass of a window end over one record (R87 to R89, R92); an IDLE or SUSPECT record is not passed. -/
def Element.passed (e : Element) (k : Nat) : Element :=
  if e.accounted then
    { e with
      accumulator := 0
      rate := if e.seeded then smoothedRate e.rate e.accumulator k else 16 * e.accumulator
      seeded := true }.projected
  else e

end Sys2Proof.Machine
end

