-- ==== Sys2Proof/Machine/EpochOps.lean ====
section
/-! DEFINITION. The due list brought into order (R96 to R98), the window end (R29, R34, R87), the motion report taken
at the Ticket Unit (R120, R121), and the epoch close that may raise both (R12, R24, R32, R47, R71 to R81). A report
and a window end that a close raises stand outstanding until their own step takes them; `State.settle` takes what is
outstanding, reports first (R81; log 6). -/

namespace Sys2Proof.Machine

/-! ## The due list -/

/-- Membership of the due list (R96). -/
def Element.planned (e : Element) (horizon : Nat) : Bool :=
  e.accounted && (e.state = .worn || e.state = .due || decide (e.projection ≤ horizon))

/-- The order of the due list (R97): by T, then by element number. -/
abbrev dueBefore (elements : Table Element 64) (i j : Fin 64) : Prop :=
  (elements.get i).projection < (elements.get j).projection ∨
    ((elements.get i).projection = (elements.get j).projection ∧ i ≤ j)

/-- The due list that the records and the horizon give (R96, R97). -/
def dueListOf (elements : Table Element 64) (horizon : Nat) : List (Fin 64) :=
  ((List.finRange 64).filter fun i => (elements.get i).planned horizon).insertionSort (dueBefore elements)

/-- The plan with the due list re-formed; the generation number rises if the sequence differs from `before` (R98). -/
def Plan.reformed (p : Plan) (before after : List (Fin 64)) : Plan :=
  { p with
    due := after
    generation := if after = before then p.generation else (p.generation + 1) % 65536 }

/-- Brings the due list into order, raising PLAN if its sequence changed (R98). -/
def State.bringDue (s : State) : State :=
  let after := dueListOf s.elements s.plan.horizon
  ({ s with plan := s.plan.reformed s.plan.due after }).raiseIf .plan (after != s.plan.due)

/-! ## The window end -/

/-- The Plan Engine's pass of a window end over the element table (R87). -/
def State.passElements (s : State) : State :=
  { s with elements := s.elements.mapIdx fun _ e => e.passed s.plan.shift }

/-- The Zone History's append at a window end, for the sequence number reached; sums and markers start afresh (R32
to R36). -/
def State.appendHistory (s : State) (seq : Nat) : State :=
  let r : WindowRecord := ⟨seq, s.window.loaded, s.history.sums, s.history.markers⟩
  let ring := pushRing Config.historyCapacity s.history.ring r
  let dropped := droppedBy Config.historyCapacity WindowRecord.seq s.history.ring
  let oldest := oldestOf WindowRecord.seq ring seq
  { s with
    history := { s.history with ring := ring, sums := .ofFn fun _ => 0, markers := .none }
    ports := s.ports.map fun i => { i with history := i.history.onAppend seq oldest dropped } }

/-- The Window Counter loads the next window (R29). -/
def State.loadWindow (s : State) (seq : Nat) : State :=
  { s with window := { s.window with remaining := s.window.length, loaded := s.window.length, seq := seq } }

/-- A window end taken (R29, R30). -/
def State.endWindow (s : State) : State :=
  let seq := nextSequence s.window.seq
  ((s.passElements.bringDue).appendHistory seq).loadWindow seq

/-! ## Motion -/

/-- A motion report taken on a zone (R120, R121). -/
def State.takeReport (s : State) (z : Fin 8) : State :=
  let s1 := { s with tickets.reports := s.tickets.reports.set z false }
  match (s1.tickets.holds.get z).state, s1.owner z with
  | .free, _ => s1
  | .requested, _ => (s1.raiseAll .motion).mapHold z fun h => { h with grantA := false, grantB := false }
  | .held, .nobody => (s1.raiseAll .motion).mapZoneTickets z fun t =>
      if t.state = .working then { t with accessSeen := false } else t
  | .held, _ =>
    ((s1.raiseAll .motion).dropWorking z).mapHold z fun h =>
      { h with state := .requested, grantA := false, grantB := false }

/-- Takes the motion report of a zone if one is outstanding. -/
def State.takeReportIf (s : State) (z : Fin 8) : State :=
  if s.tickets.reports.get z then s.takeReport z else s

/-- Takes a window end if one is outstanding: the remaining count stands at 0 (R29). -/
def State.endWindowIf (s : State) : State := if s.window.remaining = 0 then s.endWindow else s

/-- Takes what a close left outstanding, motion reports before the window end (R81; log 6). -/
def State.settle (s : State) : State := ((List.finRange 8).foldl State.takeReportIf s).endWindowIf

/-! ## The epoch close -/

/-- The accrual of element `i` at this close; none for an IDLE or SUSPECT element (R71). The effective class is formed
from the reports before the countdown (R47). -/
def State.accrual (s : State) (i : Fin 64) : Option Accrued :=
  let e := s.elements.get i
  if e.accounted then
    some (e.accrue i s.bands (s.book.weight (s.book.zones.get e.zone).effectiveClass) (s.handed e.tach)
      (s.handedReference e.reference))
  else none

/-- The sum of the increments of one zone's elements at a close (R32, R79). -/
def zoneIncrement (acc : Table (Option Accrued) 64) (z : Fin 8) : Nat :=
  acc.data.foldl (fun total o =>
    match o with
    | some a => if a.element.zone = z then total + a.increment else total
    | none => total) 0

/-- Whether some accrual of a close has the property. -/
def accruedAny (acc : Table (Option Accrued) 64) (f : Accrued → Bool) : Bool :=
  acc.any fun o =>
    match o with
    | some a => f a
    | none => false

/-- The Wear Engine's part of a close: records, zone sums, SLIP and WORN, motion reports (R58, R71 to R81). -/
def State.accrueAll (s : State) : State :=
  let acc : Table (Option Accrued) 64 := .ofFn s.accrual
  let s1 := { s with
    elements := s.elements.mapIdx fun i e =>
      match acc.get i with
      | some a => a.element
      | none => e
    history.sums := s.history.sums.mapIdx fun z v => saturate Config.zoneSumTop (v + zoneIncrement acc z)
    tickets.reports := s.tickets.reports.mapIdx fun z outstanding =>
      outstanding || (decide ((s.tickets.holds.get z).state = HoldState.held) &&
        accruedAny acc fun a => decide (a.element.zone = z) && a.moved) }
  (s1.raiseIf .slip (accruedAny acc Accrued.slip)).raiseIf .worn (accruedAny acc Accrued.worn)

/-- A load report after one close (R47). -/
def LoadReport.countdown (r : LoadReport) : LoadReport :=
  if r.lapsed then r else { r with hold := r.hold - 1, lapsed := decide (r.hold ≤ 1) }

/-- The Load Book's part of a close (R47). -/
def State.countDownLoads (s : State) : State :=
  { s with book.zones := s.book.zones.mapIdx fun _ b =>
      { b with reportA := b.reportA.countdown, reportB := b.reportB.countdown } }

/-- The Signal Line Unit's part of a close once the counts are handed: every counter restarts at 0 (R12). -/
def State.restartCounters (s : State) : State :=
  { s with lines := s.lines.mapIdx fun _ l => { l with count := 0 } }

/-- The Window Counter's part of a close, and the fresh epoch (R24, R29). -/
def State.countClose (s : State) : State :=
  { s with
    window.remaining := s.window.remaining - 1
    pacer.ms := 0
    fresh := s.fresh + 1 }

/-- An epoch close of any cause (R24), after what an earlier close left outstanding. -/
def State.closeEpoch (s : State) : State :=
  s.settle.accrueAll.countDownLoads.restartCounters.bringDue.countClose

end Sys2Proof.Machine
end

