-- ==== Sys2Proof/Machine/ControlOps.lean ====
section
/-! DEFINITION. The operating state brought to the requested state (R160), the entry to PARKED (R161), the wake
(R163), the contact-scan timer's restarts (R11), the starts (R22, R27, R52, R84, R105, R132, R154, R168 to R170, R179),
the entry to RETAINED (R165, R166) and the release of a zone (R119). -/

namespace Sys2Proof.Machine

/-! ## The contact-scan timer -/

/-- A scan table entry, in half milliseconds (R11). -/
def scanPeriod (index : Nat) : Nat := 2 * Config.scanTable.getD index 0

/-- The scan period of the operating state, in half milliseconds; none where the timer is stopped (R11). -/
def State.scanTimerPeriod (s : State) : Option Nat :=
  match s.ctl.op with
  | .active => some 1
  | .quiet => some (scanPeriod s.scan.quietIndex)
  | .parked =>
    if s.lines.any fun l => l.isContact && l.wake then some (scanPeriod s.scan.parkIndex) else none
  | .retained => none

/-- Restarts the contact-scan timer with the period of the state in force (R11). -/
def State.restartScan (s : State) : State := { s with scan.timer := s.scanTimerPeriod }

/-! ## Wake and park -/

/-- A wake from PARKED, once its source is taken (R163, steps 2 to 7). -/
def State.wake (s : State) : State :=
  (({ s with
      ctl := { s.ctl with votes := .all .run, op := .active }
      pacer.ms := 0 }).restartScan).raiseAll .woke

/-- Wakes the device if it is PARKED. -/
def State.wakeIfParked (s : State) : State := if s.ctl.op = .parked then s.wake else s

/-- Chip select is asserted on some port. -/
def State.anySelected (s : State) : Bool := s.ports.a.select || s.ports.b.select || s.ports.m.select

/-- Freezes the outputs: each pin is held as it is driven, or stays undriven (R19). -/
def State.freeze (s : State) : State :=
  { s with pins.held := .ofFn s.pinDrive, pins.frozen := true }

/-- The operating state becomes PARKED and the outputs freeze (R161, steps 3 and 4). -/
def State.enterParked (s : State) : State := (({ s with ctl.op := .parked }).restartScan).freeze

/-- The entry to PARKED (R161), with the wake of a chip select found asserted (R163). -/
def State.parkEntry (s : State) : State :=
  let s1 := s.settle
  let s2 := ({ s1 with history.markers.park := true }).closeEpoch.settle
  let s3 := s2.enterParked
  if s3.anySelected then s3.wake else s3

/-- Brings the operating state to the requested state (R160). -/
def State.bring (s : State) : State :=
  if s.running then
    if s.broughtTo = s.ctl.op then s
    else if s.broughtTo = .parked then s.parkEntry
    else ({ s with ctl.op := s.broughtTo }).restartScan
  else s

/-! ## Release of a zone -/

/-- A zone's hold record becomes FREE and RELEASED is raised at its owners, then the operating state is brought
(R119). -/
def State.release (s : State) (z : Fin 8) : State :=
  ((s.mapHold z fun _ => .cold).raiseOwners .released z).bring

/-- One ticket less counts toward a zone's demand; at 0 the zone is released (R118, R126). -/
def State.lowerDemand (s : State) (z : Fin 8) : State :=
  let s1 := s.mapHold z fun h => { h with demand := h.demand - 1 }
  if (s1.tickets.holds.get z).demand = 0 then s1.release z else s1

/-! ## Starts -/

/-- A port's interface state after a start (R178, R179). -/
def Interface.started (i : Interface) (kind : StartKind) : Interface :=
  { Interface.cold (BitVec.ofNat 32 kind.code) with select := i.select, void := i.select }

/-- What every start does to the ports, the pins' freeze, the clocks and the State Controller (R22, R27, R168,
R179), and the notices (R154). -/
def State.startCommon (s : State) (kind : StartKind) : State :=
  ({ s with
      ports := s.ports.map fun i => i.started kind
      notices := .all .started
      lines := s.lines.mapIdx fun _ l => { l with count := 0, filtered := none, sample := none }
      pins := { s.pins with held := .ofFn fun _ => none, frozen := false }
      blink := 0
      pacer.ms := 0
      half := false
      ctl := { s.ctl with op := .active, votes := .all .run, startKind := kind, valid := true } }).restartScan

/-- The check of a start (R84): an in-use element whose sum and check word differ becomes SUSPECT. -/
def Element.examined (e : Element) (n : Fin 64) : Element :=
  if e.inUse && e.sum n != e.check then { e with state := .suspect } else e

/-- The records examined, and the due list rebuilt against the one the retained records gave before the check; no
PLAN is raised (R84, R105). -/
def State.examineElements (s : State) : State :=
  let before := dueListOf s.elements s.plan.horizon
  let elements := s.elements.mapIdx fun n e => e.examined n
  { s with elements := elements, plan := s.plan.reformed before (dueListOf elements s.plan.horizon) }

/-- Every AWAITING or WORKING ticket becomes STALLED and every hold FREE; nothing is raised (R132). -/
def State.demoteTickets (s : State) : State :=
  { s with tickets := { s.tickets with
      table := s.tickets.table.map fun t => if t.active then t.enterStalled else t
      holds := .ofFn fun _ => .cold
      reports := .ofFn fun _ => false } }

/-- A report lapsed, its class kept (R42, R52). -/
def LoadReport.lapse (r : LoadReport) : LoadReport := { r with hold := 0, lapsed := true }

/-- Every load report is lapsed (R52). -/
def State.lapseReports (s : State) : State :=
  { s with book.zones := s.book.zones.mapIdx fun _ b =>
      { b with reportA := b.reportA.lapse, reportB := b.reportB.lapse } }

/-- A WARM or SOFT start (R170). -/
def State.warmStart (s : State) (kind : StartKind) : State :=
  let s1 := s.examineElements.demoteTickets.lapseReports
  ({ s1 with history.markers.start := true }).startCommon kind

/-- A COLD start (R169): every item at its COLD value. What is outside the device stays: chip selects, pin levels, what
the supply monitor sees, and the queue. -/
def State.coldStart (s : State) : State :=
  { State.reset with
    ports := s.ports.map fun i => i.started .cold
    scan := { State.reset.scan with contacts := s.scan.contacts }
    pins := { State.reset.pins with input := s.pins.input }
    ctl := { State.reset.ctl with
      vmainLow := s.ctl.vmainLow
      vkeepLow := s.ctl.vkeepLow
      rstnLow := s.ctl.rstnLow }
    fresh := s.fresh
    pending := s.pending }

/-! ## Entry to RETAINED -/

/-- A port's interface state while RETAINED: discarded but for its chip select (R165, R166; log 12). -/
def Interface.discarded (i : Interface) : Interface := { Interface.cold 0 with select := i.select }

/-- Entry to RETAINED: what lives outside the retained domain is discarded, the rest is kept, the line records with
their sampled levels among it, which the start that follows makes NONE (R21, R22, R165, R166). -/
def State.enterRetained (s : State) : State :=
  { s with
    ports := s.ports.map Interface.discarded
    notices := .all ⟨0, 0⟩
    lines := s.lines.mapIdx fun _ l => { l with count := 0 }
    scan.timer := none
    pins := { s.pins with held := .ofFn fun _ => none, frozen := false }
    blink := 0
    pacer.ms := 0
    plan.due := []
    tickets.table := s.tickets.table.map fun t => { t with timer := 0 }
    half := false
    ctl := { s.ctl with op := .retained, votes := .all .run } }

end Sys2Proof.Machine
end

