-- ==== Sys2Proof/Machine/FrameOps.lean ====
section
/-! DEFINITION. The Port Interface (spec/10): the beginning of a frame, its edges and the data-out pin (R173), its
release (R174), the answer staged (R175, R176), the checks made before any block sees a command (R179), and the frame
that carries one command as one step (log 2). -/

namespace Sys2Proof.Machine

/-- The status byte of a port's answer (R176): ATTN, FROZEN, result code. -/
def State.statusByte (s : State) (p : Port) (r : Result) : Byte :=
  BitVec.ofBool (s.attention p) ++ BitVec.ofBool s.pins.frozen ++ BitVec.ofNat 6 r.code

/-- The 48 bits a port shifts out in the frame that begins now (R175, R176). -/
def State.answerFrame (s : State) (p : Port) : FrameWord :=
  let a := (s.ports.get p).staged
  frameWord (s.statusByte p a.result) a.code a.data

/-- Rewrites a port's interface state. -/
def State.mapPort (s : State) (p : Port) (f : Interface → Interface) : State :=
  { s with ports := s.ports.modify p f }

/-- Chip select is asserted on a port (R173). It wakes a parked device first (R163). In RETAINED the port receives
nothing (R166). A chip select already asserted does not begin another frame. -/
def State.beginFrame (s : State) (p : Port) : State :=
  if (s.ports.get p).select then s
  else if s.ctl.op = .retained then s.mapPort p fun i => { i with select := true }
  else s.wakeIfParked.mapPort p fun i =>
    { i with select := true, bitCount := 0, shiftOut := s.wakeIfParked.answerFrame p }

/-- The frame bit count after `edges` rising clock edges since it was set to 0 (R173): each edge adds 1 to it, and it
stays at 255 once it reaches it. -/
def countEdges (edges : Nat) : Nat := saturate Config.bitCountTop edges

/-- The data-out pin of a port that has seen `falls` falling clock edges since its chip select was asserted (R173): the
answer bit by bit from the first bit of byte 0, then 0, until the release; undriven while chip select is released. The
answer of a void frame is 0 (R178). -/
def Interface.dataOut (i : Interface) (falls : Nat) : Option Bool :=
  if i.select then some (if falls < 48 then i.shiftOut.getMsbD falls else false) else none

/-- The data-out pin of a port (R173), undriven in RETAINED (R166). -/
def State.dataOut (s : State) (p : Port) (falls : Nat) : Option Bool :=
  if s.ctl.op = .retained then none else (s.ports.get p).dataOut falls

/-- Chip select is released after `edges` rising clock edges (R173; log 3). -/
def State.endFrame (s : State) (p : Port) (edges : Nat) : State :=
  s.mapPort p fun i => { i with select := false, bitCount := countEdges edges }

/-- A void frame is discarded at its release and the flag cleared, its bits counted as any frame's (R173, R178). -/
def State.discardVoid (s : State) (p : Port) (edges : Nat) : State :=
  (s.endFrame p edges).mapPort p fun i => { i with void := false }

/-- The answer to a command of the given code replaces the staged answer (R175). -/
def State.stage (s : State) (p : Port) (code : Byte) (r : Reply) : State :=
  s.mapPort p fun i => { i with staged := ⟨r.result, code, r.data⟩ }

/-- A command is taken: an unknown code and a sender not permitted are answered first (R179), and what the command
replies is staged (R175). -/
def State.takeCommand (s : State) (p : Port) (code : Byte) (effect : State → Taken) : State :=
  match sendersOf code with
  | none => s.stage p code ⟨.unknown, 0⟩
  | some who =>
    if who.permit p then
      match (effect s).reply with
      | some r => (effect s).state.stage p code r
      | none => (effect s).state
    else s.stage p code ⟨.notPermitted, 0⟩

/-- A whole frame of 48 bits that carries one command, taken at its release (R174): the frame under way on the port,
or, where none is, one that begins and ends in this step (log 2). In RETAINED the port takes nothing (R166). -/
def State.frameCommand (s : State) (p : Port) (code : Byte) (effect : State → Taken) : State :=
  if s.ctl.op = .retained then s.mapPort p fun i => { i with select := false }
  else if ((s.beginFrame p).ports.get p).void then (s.beginFrame p).discardVoid p 48
  else ((s.beginFrame p).endFrame p 48).takeCommand p code effect

end Sys2Proof.Machine
end

