-- ==== Sys2Proof/Machine/Interface.lean ====
section
/-! DEFINITION. The commands of the Port Interface, the Notice Unit and the State Controller that any port may send:
NOP (R180), READ-STATUS (R172), READ-NOTICES (R150, R151), SET-NOTICE-MASK (R146), PAGE (R152), UNFREEZE (R20) and
VOTE (R156). For each, what the command does once taken, and its row. -/

namespace Sys2Proof.Machine

/-- NOP changes no state (R180). -/
def nopEffect (s : State) : Taken := answered s 0

/-- NOP (R180). -/
def execNop (p : Port) (s : State) : Host.Outcome State Fault Refusal :=
  .next (s.frameCommand p Code.nop nopEffect)

/-- The parts of READ-STATUS (R172, R186). -/
def State.statusPart (s : State) (part : Nat) : Option Nat :=
  match part with
  | 0 => some (s.ctl.op.code + 2 ^ 8 * s.ctl.requested.code + 2 ^ 16 * s.ctl.startKind.code
      + 2 ^ 24 * flagCode s.pins.frozen)
  | 1 => some (s.tickets.table.length + 2 ^ 8 * s.plan.due.length
      + 2 ^ 16 * s.elements.count fun e => e.state = .suspect)
  | 2 => some (s.ctl.votes.a.code + 2 ^ 2 * s.ctl.votes.b.code + 2 ^ 4 * s.ctl.votes.m.code
      + 2 ^ 8 * flagCode s.ctl.fittedA + 2 ^ 9 * flagCode s.ctl.fittedB)
  | _ => none

/-- READ-STATUS (R172). -/
def readStatusEffect (sel : Byte) (s : State) : Taken :=
  orBadArg s (s.statusPart sel.toNat) fun d => answered s d

/-- READ_STATUS (R172). -/
def execReadStatus (p : Port) (sel : Byte) (s : State) : Host.Outcome State Fault Refusal :=
  .next (s.frameCommand p Code.readStatus (readStatusEffect sel))

/-- The event notices leave a port's pending set (R150). -/
def State.clearEvents (s : State) (p : Port) : State :=
  { s with notices := s.notices.modify p fun b => { b with events := b.events &&& ~~~eventNotices } }

/-- READ-NOTICES: selector 0 returns the pending set and removes its event notices (R150); 1 returns the set and 2 the
mask without change (R151). -/
def readNoticesEffect (p : Port) (sel : Byte) (s : State) : Taken :=
  match sel.toNat with
  | 0 => answered (s.clearEvents p) (s.pendingSet p).toNat
  | 1 => answered s (s.pendingSet p).toNat
  | 2 => answered s (s.notices.get p).mask.toNat
  | _ => declined s .badArg

/-- READ_NOTICES (R150). -/
def execReadNotices (p : Port) (sel : Byte) (s : State) : Host.Outcome State Fault Refusal :=
  .next (s.frameCommand p Code.readNotices (readNoticesEffect p sel))

/-- SET-NOTICE-MASK writes the caller's mask (R146). -/
def setNoticeMaskEffect (p : Port) (val : Word) (s : State) : Taken :=
  orBadArg s (within 0 65535 val.toNat) fun v =>
    answered { s with notices := s.notices.modify p fun b => { b with mask := BitVec.ofNat 16 v } } v

/-- SET_NOTICE_MASK (R146). -/
def execSetNoticeMask (p : Port) (val : Word) (s : State) : Host.Outcome State Fault Refusal :=
  .next (s.frameCommand p Code.setNoticeMask (setNoticeMaskEffect p val))

/-- PAGE raises PAGE at the port named (R152). -/
def pageEffect (sel : Byte) (s : State) : Taken :=
  orBadArg s (pageTargetOf sel.toNat) fun target => answered (s.raiseAt .page target) 0

/-- PAGE (R152). -/
def execPage (p : Port) (sel : Byte) (s : State) : Host.Outcome State Fault Refusal :=
  .next (s.frameCommand p Code.page (pageEffect sel))

/-- UNFREEZE clears the frozen flag if it is set; every pin then follows its settings (R20). -/
def unfreezeEffect (s : State) : Taken :=
  answered (if s.pins.frozen then
    { s with pins := { s.pins with held := .ofFn fun _ => none, frozen := false } } else s) 0

/-- UNFREEZE (R20). -/
def execUnfreeze (p : Port) (s : State) : Host.Outcome State Fault Refusal :=
  .next (s.frameCommand p Code.unfreeze unfreezeEffect)

/-- VOTE stores the caller's vote and brings the operating state (R156); the answer carries the state arrived at.
DESIGN CHOICE: where the entry to PARKED finds a chip select asserted and the device wakes at once (R163), the answer is
formed after that wake and carries ACTIVE, the state the command leaves (R175), and not the PARKED that the bringing
arrived at (R156); the spec does not say which (log 28, unsafe). -/
def voteEffect (p : Port) (val : Word) (s : State) : Taken :=
  orBadArg s (voteOf val.toNat) fun v =>
    let s1 := ({ s with ctl.votes := s.ctl.votes.set p v }).bring
    answered s1 s1.ctl.op.code

/-- VOTE (R156). -/
def execVote (p : Port) (val : Word) (s : State) : Host.Outcome State Fault Refusal :=
  .next (s.frameCommand p Code.vote (voteEffect p val))

end Sys2Proof.Machine
end

