-- ==== Sys2Proof/Machine/Lines.lean ====
section
/-! DEFINITION. The Signal Line Unit's commands and events: SET-LINE field by field (R3, R9, R10, R13, R15, R17),
READ-LINE-SETTING (R4), SET-LINE-LEVEL (R6), READ-LINES (R7), the level filter (R1, R9, R14 to R16), the contact scan
(R10, R11, R14) and the blink clock's half-cycle (R18). -/

namespace Sys2Proof.Machine

/-- SET-LINE of one field: the line and the new value are named, or the command is refused BAD-ARG (R3); the record is
written with what follows from the write (R15, R16, R19). -/
def setLineWith {α : Type} (sel : Byte) (value : Option α) (f : α → Line → Line) (s : State) : Taken :=
  orBadArg s (finOf 24 sel.toNat) fun i =>
    orBadArg s value fun v => answered (s.writeLineGate i (f v (s.lines.get i))) 0

/-- A function write: a change clears the count and the scan sample (R10, R13). -/
def Line.withFunction (fn : LineFunction) (l : Line) : Line :=
  if l.function = fn then l else { l with function := fn, count := 0, sample := none }

/-- A sensing mode write: a change loses the scan sample and keeps the count (R10, R13). -/
def Line.withSensing (m : Sensing) (l : Line) : Line :=
  if l.sensing = m then l else { l with sensing := m, sample := none }

/-- A polarity write: a change loses the scan sample and keeps the count and the filtered level (R9, R10). -/
def Line.withPolarity (b : Bool) (l : Line) : Line :=
  if l.polarity = b then l else { l with polarity := b, sample := none }

/-- SET-LINE of the function (R13). -/
def setLineFunctionEffect (sel : Byte) (fv : FieldValue) : State → Taken :=
  setLineWith sel (functionOf fv.toNat) Line.withFunction

/-- SET-LINE of the direction (R3). -/
def setLineDirectionEffect (sel : Byte) (fv : FieldValue) : State → Taken :=
  setLineWith sel (directionOf fv.toNat) fun v l => { l with direction := v }

/-- SET-LINE of the PLAIN level (R3). -/
def setLineLevelFieldEffect (sel : Byte) (fv : FieldValue) : State → Taken :=
  setLineWith sel (flagOf fv.toNat) fun v l => { l with level := v }

/-- SET-LINE of the pull-up (R3). -/
def setLinePullUpEffect (sel : Byte) (fv : FieldValue) : State → Taken :=
  setLineWith sel (flagOf fv.toNat) fun v l => { l with pullUp := v }

/-- SET-LINE of the float setting (R3). -/
def setLineFloatEffect (sel : Byte) (fv : FieldValue) : State → Taken :=
  setLineWith sel (flagOf fv.toNat) fun v l => { l with float := v }

/-- SET-LINE of the sensing mode (R9, R10). -/
def setLineSensingModeEffect (sel : Byte) (fv : FieldValue) : State → Taken :=
  setLineWith sel (sensingOf fv.toNat) Line.withSensing

/-- SET-LINE of the polarity (R9, R10, R15). -/
def setLinePolarityEffect (sel : Byte) (fv : FieldValue) : State → Taken :=
  setLineWith sel (flagOf fv.toNat) Line.withPolarity

/-- SET-LINE of the wake enable (R3). -/
def setLineWakeEnableEffect (sel : Byte) (fv : FieldValue) : State → Taken :=
  setLineWith sel (flagOf fv.toNat) fun v l => { l with wake := v }

/-- SET-LINE of the zone (R15). -/
def setLineZoneEffect (sel : Byte) (fv : FieldValue) : State → Taken :=
  setLineWith sel (finOf 8 fv.toNat) fun v l => { l with zone := v }

/-- SET-LINE of the owner side (R17). -/
def setLineOwnerSideEffect (sel : Byte) (fv : FieldValue) : State → Taken :=
  setLineWith sel (ownerSideOf fv.toNat) fun v l => { l with side := v }

/-- SET_LINE_FUNCTION (R13). -/
def execSetLineFunction (p : Port) (sel : Byte) (fv : FieldValue) (s : State) : Host.Outcome State Fault Refusal :=
  .next (s.frameCommand p Code.setLine (setLineFunctionEffect sel fv))

/-- SET_LINE_DIRECTION (R3). -/
def execSetLineDirection (p : Port) (sel : Byte) (fv : FieldValue) (s : State) : Host.Outcome State Fault Refusal :=
  .next (s.frameCommand p Code.setLine (setLineDirectionEffect sel fv))

/-- SET_LINE_LEVEL_FIELD (R3). -/
def execSetLineLevelField (p : Port) (sel : Byte) (fv : FieldValue) (s : State) : Host.Outcome State Fault Refusal :=
  .next (s.frameCommand p Code.setLine (setLineLevelFieldEffect sel fv))

/-- SET_LINE_PULL_UP (R3). -/
def execSetLinePullUp (p : Port) (sel : Byte) (fv : FieldValue) (s : State) : Host.Outcome State Fault Refusal :=
  .next (s.frameCommand p Code.setLine (setLinePullUpEffect sel fv))

/-- SET_LINE_FLOAT (R3). -/
def execSetLineFloat (p : Port) (sel : Byte) (fv : FieldValue) (s : State) : Host.Outcome State Fault Refusal :=
  .next (s.frameCommand p Code.setLine (setLineFloatEffect sel fv))

/-- SET_LINE_SENSING_MODE (R10). -/
def execSetLineSensingMode (p : Port) (sel : Byte) (fv : FieldValue) (s : State) :
    Host.Outcome State Fault Refusal :=
  .next (s.frameCommand p Code.setLine (setLineSensingModeEffect sel fv))

/-- SET_LINE_POLARITY (R3). -/
def execSetLinePolarity (p : Port) (sel : Byte) (fv : FieldValue) (s : State) : Host.Outcome State Fault Refusal :=
  .next (s.frameCommand p Code.setLine (setLinePolarityEffect sel fv))

/-- SET_LINE_WAKE_ENABLE (R3). -/
def execSetLineWakeEnable (p : Port) (sel : Byte) (fv : FieldValue) (s : State) : Host.Outcome State Fault Refusal :=
  .next (s.frameCommand p Code.setLine (setLineWakeEnableEffect sel fv))

/-- SET_LINE_ZONE (R15). -/
def execSetLineZone (p : Port) (sel : Byte) (fv : FieldValue) (s : State) : Host.Outcome State Fault Refusal :=
  .next (s.frameCommand p Code.setLine (setLineZoneEffect sel fv))

/-- SET_LINE_OWNER_SIDE (R17). -/
def execSetLineOwnerSide (p : Port) (sel : Byte) (fv : FieldValue) (s : State) : Host.Outcome State Fault Refusal :=
  .next (s.frameCommand p Code.setLine (setLineOwnerSideEffect sel fv))

/-- SET-LINE of the field an index names; field 10, 11 and above are refused BAD-ARG (R3, R184). -/
def setLineEffect (sel idx : Byte) (fv : FieldValue) (s : State) : Taken :=
  match idx.toNat with
  | 0 => setLineFunctionEffect sel fv s
  | 1 => setLineDirectionEffect sel fv s
  | 2 => setLineLevelFieldEffect sel fv s
  | 3 => setLinePullUpEffect sel fv s
  | 4 => setLineFloatEffect sel fv s
  | 5 => setLineSensingModeEffect sel fv s
  | 6 => setLinePolarityEffect sel fv s
  | 7 => setLineWakeEnableEffect sel fv s
  | 8 => setLineZoneEffect sel fv s
  | 9 => setLineOwnerSideEffect sel fv s
  | _ => declined s .badArg

/-- A field of a line record as read (R4, R184). -/
def Line.field (l : Line) (n : Nat) : Option Nat :=
  match n with
  | 0 => some l.function.code
  | 1 => some l.direction.code
  | 2 => some (flagCode l.level)
  | 3 => some (flagCode l.pullUp)
  | 4 => some (flagCode l.float)
  | 5 => some l.sensing.code
  | 6 => some (flagCode l.polarity)
  | 7 => some (flagCode l.wake)
  | 8 => some l.zone.val
  | 9 => some (ownerSideCode l.side)
  | 10 => some (sampledCode l.sampledLevel)
  | 11 => some (if l.function = .tach then l.count else 0)
  | _ => none

/-- READ-LINE-SETTING (R4). -/
def readLineSettingEffect (sel : Byte) (val : Word) (s : State) : Taken :=
  orBadArg s (finOf 24 sel.toNat) fun i =>
    orBadArg s ((s.lines.get i).field val.toNat) fun d => answered s d

/-- READ_LINE_SETTING (R4). -/
def execReadLineSetting (p : Port) (sel : Byte) (val : Word) (s : State) : Host.Outcome State Fault Refusal :=
  .next (s.frameCommand p Code.readLineSetting (readLineSettingEffect sel val))

/-- SET-LINE-LEVEL stores the PLAIN level whatever the line's function (R6). -/
def setLineLevelEffect (sel : Byte) (val : Word) (s : State) : Taken :=
  orBadArg s (finOf 24 sel.toNat) fun i =>
    orBadArg s (flagOf val.toNat) fun v => answered (s.writeLine i { s.lines.get i with level := v }) 0

/-- SET_LINE_LEVEL (R6). -/
def execSetLineLevel (p : Port) (sel : Byte) (val : Word) (s : State) : Host.Outcome State Fault Refusal :=
  .next (s.frameCommand p Code.setLineLevel (setLineLevelEffect sel val))

/-- The 24 levels of R7, bit n for line SLn (R184). -/
def State.lineLevels (s : State) : Nat :=
  (List.finRange 24).foldl (fun w i => w + 2 ^ i.val * flagCode (s.lineLevel i)) 0

/-- READ-LINES at a moment when the pins stand at `levels` (R7; log 8). -/
def readLinesEffect (levels : Pins) (s : State) : Taken :=
  let s1 := { s with pins.input := levels }
  answered s1 s1.lineLevels

/-- READ_LINES (R7). -/
def execReadLines (p : Port) (levels : Pins) (s : State) : Host.Outcome State Fault Refusal :=
  .next (s.frameCommand p Code.readLines (readLinesEffect levels))

/-! ## Events of the lines -/

/-- The pins' levels with one line's written. -/
def withPin (levels : Pins) (i : Fin 24) (b : Bool) : Pins :=
  if b then levels ||| BitVec.twoPow 24 i.val else levels &&& ~~~BitVec.twoPow 24 i.val

/-- The filtered level of a line is accepted as `level`, before what follows from it (R1). -/
def State.acceptLevel (s : State) (i : Fin 24) (level : Bool) : State :=
  { s with
    lines := s.lines.modify i fun l => { l with filtered := some level }
    pins.input := withPin s.pins.input i level }

/-- What an accepted change does by the line's function (R9, R14 to R16): a DRIVEN TACH line counts an edge to its
active level, a GATE line may become active; either may wake a parked device (R163). `before` is the filtered level
before the change: a first level established is no edge and no change of level (R9; log 9). -/
def State.takeLevel (s : State) (i : Fin 24) (before : Option Bool) (level : Bool) : State :=
  let l := s.lines.get i
  match l.function, l.sensing with
  | .tach, .driven =>
    if before.isSome ∧ level = l.polarity then
      if l.wake then (s.countPulse i).wakeIfParked else s.countPulse i
    else s
  | .gate, _ =>
    let s1 := if level = l.polarity then s.gateOpened l.zone else s
    if l.wake ∧ before.isSome then s1.wakeIfParked else s1
  | .tach, .contact => s
  | .plain, _ => s
  | .hold, _ => s
  | .lamp, _ => s

/-- LEVEL_FILTER_ACCEPT (R1): no effect in RETAINED, nor where the level is the filtered level already. -/
def execLevelFilterAccept (line : Fin 24) (level : Bool) (s : State) : Host.Outcome State Fault Refusal :=
  if s.ctl.op = .retained ∨ (s.lines.get line).filtered = some level then .next s
  else .next ((s.acceptLevel line level).takeLevel line (s.lines.get line).filtered level)

/-- A line that takes part in the scans of the operating state (R11). -/
def Line.scanned (l : Line) (op : OpState) : Bool := l.isContact && (op != .parked || l.wake)

/-- A scan of this line counts a pulse: its sample goes from the inactive to the active level (R10). -/
def Line.scanPulse (l : Line) (op : OpState) (sample : Bool) : Bool :=
  l.scanned op && l.sample = some (!l.polarity) && sample = l.polarity

/-- A line after a scan (R10). -/
def Line.afterScan (l : Line) (op : OpState) (sample : Bool) : Line :=
  if l.scanned op then
    { l with
      sample := some sample
      count := if l.scanPulse op sample then saturate Config.countTop (l.count + 1) else l.count }
  else l

/-- Whether some line counts, or would count, a pulse at this scan with the property. -/
def State.scanAny (s : State) (levels : Pins) (f : Line → Bool) : Bool :=
  (List.finRange 24).any fun i => (s.lines.get i).scanPulse s.ctl.op (levels.getLsbD i.val) && f (s.lines.get i)

/-- A contact scan with the levels the excited pins take (R10, R11): the timer starts its next period; a pulse counted
in PARKED wakes the device (R14). No effect while the timer is stopped. -/
def State.scanContacts (s : State) (levels : Pins) : State :=
  match s.scan.timer with
  | none => s
  | some _ =>
    let s1 := ({ s with
      lines := s.lines.mapIdx fun i l => l.afterScan s.ctl.op (levels.getLsbD i.val)
      scan.contacts := levels }).restartScan
    let s2 := if s.scanAny levels fun l => l.count = Config.countTop then s1.raiseAt .overrun .m else s1
    if s.scanAny levels fun _ => true then s2.wakeIfParked else s2

/-- CONTACT_SCAN (R10). -/
def execContactScan (levels : Pins) (s : State) : Host.Outcome State Fault Refusal :=
  .next (s.scanContacts levels)

/-- The blink clock goes on to its next half-cycle; it runs in ACTIVE and QUIET (R18). -/
def State.blinkHalf (s : State) : State :=
  if s.running then { s with blink := if s.blink < 500 then 500 else 0 } else s

/-- BLINK_HALF_CYCLE (R18). -/
def execBlinkHalfCycle (s : State) : Host.Outcome State Fault Refusal :=
  .next s.blinkHalf

end Sys2Proof.Machine
end

