-- ==== Sys2Proof/Machine/Logs.lean ====
section
/-! DEFINITION. Reading and clearing the Service Log: READ-LOG (R139), REWIND-LOG and CLEAR-LOG (R141). -/

namespace Sys2Proof.Machine

/-- A field of a service record (R134, R187). -/
def ServiceRecord.field (r : ServiceRecord) (n : Nat) : Nat :=
  match n with
  | 0 => r.seq
  | 1 => r.element.val
  | 2 => r.ticket
  | 3 => r.outcome.code
  | 4 => r.wear
  | 5 => r.renewCount
  | _ => r.window

/-- Moves a port's log cursor. -/
def State.setLogCursor (s : State) (p : Port) (c : Cursor) : State := s.mapPort p fun i => { i with log := c }

/-- READ-LOG, selector 0 (R139). -/
def readLogField (p : Port) (s : State) : Taken :=
  match (s.ports.get p).log with
  | .past => declined s .empty
  | .on q f =>
    match s.log.ring.find? fun r => r.seq = q with
    | some r => answered (s.setLogCursor p (advanceCursor ServiceRecord.seq 6 s.log.ring q f)) (r.field f)
    | none => declined s .empty

/-- READ-LOG (R139). -/
def readLogEffect (p : Port) (sel : Byte) (s : State) : Taken :=
  match sel.toNat with
  | 0 => readLogField p s
  | 1 => answered s ((s.ports.get p).log.index 7)
  | 2 => answered s s.log.seq
  | 3 => answered s s.log.ring.length
  | _ => declined s .badArg

/-- READ_LOG (R139). -/
def execReadLog (p : Port) (sel : Byte) (s : State) : Host.Outcome State Fault Refusal :=
  .next (s.frameCommand p Code.readLog (readLogEffect p sel))

/-- REWIND-LOG (R141). -/
def rewindLogEffect (p : Port) (s : State) : Taken :=
  answered (s.setLogCursor p (rewound ServiceRecord.seq s.log.ring)) 0

/-- REWIND_LOG (R141). -/
def execRewindLog (p : Port) (s : State) : Host.Outcome State Fault Refusal :=
  .next (s.frameCommand p Code.rewindLog (rewindLogEffect p))

/-- CLEAR-LOG empties the ring and sets all three cursors past newest (R141). -/
def clearLogEffect (s : State) : Taken :=
  answered { s with
    log.ring := []
    ports := s.ports.map fun i => { i with log := .past } } 0

/-- CLEAR_LOG (R141). -/
def execClearLog (p : Port) (s : State) : Host.Outcome State Fault Refusal :=
  .next (s.frameCommand p Code.clearLog clearLogEffect)

end Sys2Proof.Machine
end

