-- ==== Sys2Proof/Machine/Supply.lean ====
section
/-! DEFINITION. The starts by command (R171) and the supply events: SUPPLY_LOSS and KEEP_SUPPLY_LOSS (R165, R166),
RETAINED_EXIT (R167) and RETAINED_DISTURBANCE (R84). -/

namespace Sys2Proof.Machine

/-- SOFT-RESET makes a SOFT start; it stages no answer of its own (R171, R178). What an earlier close left outstanding
is taken first (log 6). -/
def softResetEffect (s : State) : Taken := ⟨s.settle.warmStart .soft, none⟩

/-- SOFT_RESET (R171). -/
def execSoftReset (p : Port) (s : State) : Host.Outcome State Fault Refusal :=
  .next (s.frameCommand p Code.softReset softResetEffect)

/-- CLEAR-ALL makes a COLD start; it stages no answer of its own (R171, R178). -/
def clearAllEffect (s : State) : Taken := ⟨s.coldStart, none⟩

/-- CLEAR_ALL (R171). -/
def execClearAll (p : Port) (s : State) : Host.Outcome State Fault Refusal :=
  .next (s.frameCommand p Code.clearAll clearAllEffect)

/-- The retained-valid marker after the supply monitor saw something new (R165): it becomes lost with VKEEP below its
range while VMAIN is below its trip level, whichever of the two fell last, for then nothing feeds the domain. -/
def Control.fed (c : Control) : Control := if c.vmainLow && c.vkeepLow then { c with valid := false } else c

/-- What the supply monitor sees after a loss, and what the marker becomes with it (R165). -/
def Control.afterLoss (c : Control) : LossCause → Control
  | .vmain => { c with vmainLow := true }.fed
  | .rstn => { c with rstnLow := true }

/-- SUPPLY_LOSS (R165): the device enters RETAINED, whatever it is doing; in RETAINED only what the monitor sees
changes. A VKEEP lost before VMAIN falls makes the marker lost now. What an earlier close left outstanding is taken
first (log 6). -/
def execSupplyLoss (cause : LossCause) (s : State) : Host.Outcome State Fault Refusal :=
  let s1 := if s.ctl.op = .retained then s else s.settle.enterRetained
  .next { s1 with ctl := s1.ctl.afterLoss cause }

/-- KEEP_SUPPLY_LOSS (R165): the monitor sees VKEEP below its operating range, or within it again (log 14). With VMAIN
below its trip level nothing then feeds the retained domain, and the marker becomes lost; with VMAIN above it the loss
has no effect until VMAIN next falls. -/
def execKeepSupplyLoss (s : State) (below : Bool := true) : Host.Outcome State Fault Refusal :=
  .next { s with ctl := { s.ctl with vkeepLow := below }.fed }

/-- RETAINED_EXIT (R167): the monitor sees VMAIN and RSTN as given; in RETAINED, with VMAIN above its trip level and
RSTN high, the device makes a WARM start, or a COLD one if the marker is lost. A device not in RETAINED sees nothing
new: a fall of VMAIN or of RSTN is SUPPLY_LOSS. -/
def execRetainedExit (vmainAbove rstnHigh : Bool) (s : State) : Host.Outcome State Fault Refusal :=
  if s.ctl.op = .retained then
    let s1 := { s with ctl := { s.ctl with vmainLow := !vmainAbove, rstnLow := !rstnHigh }.fed }
    if vmainAbove && rstnHigh then .next (if s1.ctl.valid then s1.warmStart .warm else s1.coldStart)
    else .next s1
  else .next s

/-- A record with the fields that R84 lets a disturbance reach. -/
def Element.disturbed (e : Element) (d : Disturbance) : Element :=
  { e with
    tach := d.tach.toNat
    ratio := d.ratio.toNat
    reference := referenceOf d.reference.toNat
    expected := d.expected.toNat
    tolerance := d.tolerance.toNat
    slipWeight := d.slipWeight.toNat
    limit := d.limit.toNat
    margin := d.margin.toNat
    wear := d.wear.toNat
    check := d.check.toNat }

/-- RETAINED_DISTURBANCE (R84): only in RETAINED with the marker valid, and of an element in use only such that the sum
of R83 and the check word differ; any other disturbance does not occur (log 11). -/
def execRetainedDisturbance (element : Fin 64) (d : Disturbance) (s : State) : Host.Outcome State Fault Refusal :=
  let e := (s.elements.get element).disturbed d
  if s.ctl.op = .retained ∧ s.ctl.valid = true ∧ ¬(e.inUse = true ∧ e.sum element = e.check) then
    .next { s with elements := s.elements.set element e }
  else .next s

end Sys2Proof.Machine
end

