-- ==== Sys2Proof/Machine/Epochs.lean ====
section
/-! DEFINITION. The commands and events of the Epoch Pacer, the Window Counter and the Zone History: the divider and
window length writes (R25, R28), the epoch close and the window end (R24, R29), SHIFT-MARK (R33), the history mode
(R39), and the reads of the history ring (R35 to R38). -/

namespace Sys2Proof.Machine

/-- SET-TABLE of D (R25): the DIVIDER marker, then the close of the current epoch, then the new value; what an earlier
close left outstanding is taken before the marker is set (log 6). The 1 ms base goes on in its phase, so the first
millisecond of the new epoch may be half a millisecond short, a point R25 leaves open (DESIGN CHOICE, log 23). -/
def setEpochDividerEffect (val : Word) (s : State) : Taken :=
  orBadArg s (within 0 65535 val.toNat) fun d =>
    let s1 := ({ s.settle with history.markers.divider := true }).closeEpoch
    answered { s1 with pacer.divider := d } 0

/-- SET_EPOCH_DIVIDER (R25). -/
def execSetEpochDivider (p : Port) (val : Word) (s : State) : Host.Outcome State Fault Refusal :=
  .next (s.frameCommand p Code.setTable (setEpochDividerEffect val))

/-- SET-TABLE of E, 0 clamped to 1 (R28). -/
def setWindowLengthEffect (val : Word) (s : State) : Taken :=
  orBadArg s (clampedUp 1 65535 val.toNat) fun e => answered { s with window.length := e } 0

/-- SET_WINDOW_LENGTH (R28). -/
def execSetWindowLength (p : Port) (val : Word) (s : State) : Host.Outcome State Fault Refusal :=
  .next (s.frameCommand p Code.setTable (setWindowLengthEffect val))

/-- SET-TABLE of the history mode (R39). -/
def setHistoryModeEffect (val : Word) (s : State) : Taken :=
  orBadArg s (historyModeOf val.toNat) fun m => answered { s with history.mode := m } 0

/-- SET_HISTORY_MODE (R39). -/
def execSetHistoryMode (p : Port) (val : Word) (s : State) : Host.Outcome State Fault Refusal :=
  .next (s.frameCommand p Code.setTable (setHistoryModeEffect val))

/-- SHIFT-MARK sets the SHIFT marker (R33). -/
def shiftMarkEffect (s : State) : Taken := answered { s with history.markers.shift := true } 0

/-- SHIFT_MARK (R33). -/
def execShiftMark (p : Port) (s : State) : Host.Outcome State Fault Refusal :=
  .next (s.frameCommand p Code.shiftMark shiftMarkEffect)

/-- EPOCH_CLOSE (R24): the expiry of the epoch. No epoch runs in PARKED and RETAINED (R26, R27). -/
def execEpochClose (s : State) : Host.Outcome State Fault Refusal :=
  .next (if s.running then s.closeEpoch else s)

/-- WINDOW_END (R29): taken where a close has brought the remaining count to 0. -/
def execWindowEnd (s : State) : Host.Outcome State Fault Refusal :=
  .next (if s.running then s.endWindowIf else s)

/-! ## Reading the history -/

/-- A field of a window record (R34), the marker set coded as R187 states. -/
def WindowRecord.field (r : WindowRecord) (n : Nat) : Nat :=
  match n with
  | 0 => r.seq
  | 1 => r.loaded
  | 10 => r.markers.code
  | k => r.sums.data.getD (k - 2) 0

/-- Moves a port's history cursor. -/
def State.setHistoryCursor (s : State) (p : Port) (c : Cursor) : State :=
  s.mapPort p fun i => { i with history := c }

/-- READ-HISTORY of a cursor past newest (R35): EMPTY in STOP mode or on an empty ring; in CYCLE mode the oldest
record's field 0. -/
def readHistoryPast (p : Port) (s : State) : Taken :=
  match s.history.mode, s.history.ring with
  | .stop, _ => declined s .empty
  | .cycle, [] => declined s .empty
  | .cycle, r :: _ => answered (s.setHistoryCursor p (.on r.seq 1)) r.seq

/-- READ-HISTORY, selector 0 (R35). -/
def readHistoryField (p : Port) (s : State) : Taken :=
  match (s.ports.get p).history with
  | .past => readHistoryPast p s
  | .on q f =>
    match s.history.ring.find? fun r => r.seq = q with
    | some r => answered (s.setHistoryCursor p (advanceCursor WindowRecord.seq 10 s.history.ring q f)) (r.field f)
    | none => readHistoryPast p s

/-- READ-HISTORY (R35). -/
def readHistoryEffect (p : Port) (sel : Byte) (s : State) : Taken :=
  match sel.toNat with
  | 0 => readHistoryField p s
  | 1 => answered s ((s.ports.get p).history.index 11)
  | _ => declined s .badArg

/-- READ_HISTORY (R35). -/
def execReadHistory (p : Port) (sel : Byte) (s : State) : Host.Outcome State Fault Refusal :=
  .next (s.frameCommand p Code.readHistory (readHistoryEffect p sel))

/-- REWIND-HISTORY (R37). -/
def rewindHistoryEffect (p : Port) (s : State) : Taken :=
  answered (s.setHistoryCursor p (rewound WindowRecord.seq s.history.ring)) 0

/-- REWIND_HISTORY (R37). -/
def execRewindHistory (p : Port) (s : State) : Host.Outcome State Fault Refusal :=
  .next (s.frameCommand p Code.rewindHistory (rewindHistoryEffect p))

/-- CLEAR-HISTORY empties the ring and sets all three cursors past newest (R38). -/
def clearHistoryEffect (s : State) : Taken :=
  answered { s with
    history.ring := []
    ports := s.ports.map fun i => { i with history := .past } } 0

/-- CLEAR_HISTORY (R38). -/
def execClearHistory (p : Port) (s : State) : Host.Outcome State Fault Refusal :=
  .next (s.frameCommand p Code.clearHistory clearHistoryEffect)

end Sys2Proof.Machine
end

