-- ==== Sys2Proof/Machine/Loads.lean ====
section
/-! DEFINITION. The Load Book's commands: LOAD (R45), the zone settings (R41, R42) and the load weight table (R51). -/

namespace Sys2Proof.Machine

/-- Rewrites a zone's settings and reports. -/
def State.mapZone (s : State) (z : Fin 8) (f : ZoneBook → ZoneBook) : State :=
  { s with book.zones := s.book.zones.modify z f }

/-- A line port's report for a zone replaced by an accepted LOAD (R45). -/
def ZoneBook.reported (b : ZoneBook) (side : Side) (cls : Nat) : ZoneBook :=
  match side with
  | .a => { b with reportA := ⟨cls, b.holdTime, false⟩ }
  | .b => { b with reportB := ⟨cls, b.holdTime, false⟩ }

/-- LOAD (R45): zone and class in range, then the sender an owner; the answer carries the effective class. -/
def loadEffect (p : Port) (sel : Byte) (val : Word) (s : State) : Taken :=
  orBadArg s (finOf 8 sel.toNat) fun z =>
    orBadArg s (within 0 7 val.toNat) fun cls =>
      match sideOf p with
      | none => declined s .notPermitted
      | some side =>
        if (s.owner z).has side then
          let s1 := s.mapZone z fun b => b.reported side cls
          answered s1 (s1.book.zones.get z).effectiveClass
        else declined s .notOwner

/-- LOAD (R45). -/
def execLoad (p : Port) (sel : Byte) (val : Word) (s : State) : Host.Outcome State Fault Refusal :=
  .next (s.frameCommand p Code.load (loadEffect p sel val))

/-- A zone under a new owner setting: the report of a line port that stops being an owner is lapsed (R42). -/
def ZoneBook.withOwner (b : ZoneBook) (o : Owner) : ZoneBook :=
  { b with
    owner := o
    reportA := if b.owner.has .a && !o.has .a then b.reportA.lapse else b.reportA
    reportB := if b.owner.has .b && !o.has .b then b.reportB.lapse else b.reportB }

/-- SET-TABLE of a zone's owner: refused BUSY while the zone's hold record is not FREE (R42). -/
def setZoneOwnerEffect (idx : Byte) (fv : FieldValue) (s : State) : Taken :=
  orBadArg s (finOf 8 idx.toNat) fun z =>
    orBadArg s (ownerOf fv.toNat) fun o =>
      if (s.tickets.holds.get z).state = .free then answered (s.mapZone z fun b => b.withOwner o) 0
      else declined s .busy

/-- SET_ZONE_OWNER (R42). -/
def execSetZoneOwner (p : Port) (idx : Byte) (fv : FieldValue) (s : State) : Host.Outcome State Fault Refusal :=
  .next (s.frameCommand p Code.setTable (setZoneOwnerEffect idx fv))

/-- SET-TABLE of a zone's fallback class (R41). -/
def setFallbackClassEffect (idx : Byte) (fv : FieldValue) (s : State) : Taken :=
  orBadArg s (finOf 8 idx.toNat) fun z =>
    orBadArg s (within 0 7 fv.toNat) fun v => answered (s.mapZone z fun b => { b with fallback := v }) 0

/-- SET_FALLBACK_CLASS (R41). -/
def execSetFallbackClass (p : Port) (idx : Byte) (fv : FieldValue) (s : State) : Host.Outcome State Fault Refusal :=
  .next (s.frameCommand p Code.setTable (setFallbackClassEffect idx fv))

/-- SET-TABLE of a zone's hold time, 0 clamped to 1; standing reports keep their hold (R41). -/
def setHoldTimeEffect (idx : Byte) (fv : FieldValue) (s : State) : Taken :=
  orBadArg s (finOf 8 idx.toNat) fun z =>
    orBadArg s (clampedUp 1 255 fv.toNat) fun v => answered (s.mapZone z fun b => { b with holdTime := v }) 0

/-- SET_HOLD_TIME (R41). -/
def execSetHoldTime (p : Port) (idx : Byte) (fv : FieldValue) (s : State) : Host.Outcome State Fault Refusal :=
  .next (s.frameCommand p Code.setTable (setHoldTimeEffect idx fv))

/-- SET-TABLE of a load weight (R51). -/
def setLoadWeightEffect (idx : Byte) (fv : FieldValue) (s : State) : Taken :=
  orBadArg s (finOf 8 idx.toNat) fun i =>
    orBadArg s (within 0 255 fv.toNat) fun v => answered { s with book.weights := s.book.weights.set i v } 0

/-- SET_LOAD_WEIGHT (R51). -/
def execSetLoadWeight (p : Port) (idx : Byte) (fv : FieldValue) (s : State) : Host.Outcome State Fault Refusal :=
  .next (s.frameCommand p Code.setTable (setLoadWeightEffect idx fv))

end Sys2Proof.Machine
end

