-- ==== Sys2Proof/Machine/Plans.lean ====
section
/-! DEFINITION. The Plan Engine's settings and reads: SET-TABLE of k (R86, R91) and of H (R99), READ-PLAN (R100) and
READ-ZONE (R102). -/

namespace Sys2Proof.Machine

/-- SET-TABLE of the smoothing shift, clamped to 7 (R86); no rate and no projection changes (R91). -/
def setSmoothingShiftEffect (val : Word) (s : State) : Taken :=
  answered { s with plan.shift := saturate 7 val.toNat } 0

/-- SET_SMOOTHING_SHIFT (R86). -/
def execSetSmoothingShift (p : Port) (val : Word) (s : State) : Host.Outcome State Fault Refusal :=
  .next (s.frameCommand p Code.setTable (setSmoothingShiftEffect val))

/-- SET-TABLE of the horizon, which brings the due list into order at once (R99). -/
def setHorizonEffect (val : Word) (s : State) : Taken :=
  orBadArg s (within 0 65535 val.toNat) fun h => answered ({ s with plan.horizon := h }).bringDue 0

/-- SET_HORIZON (R99). -/
def execSetHorizon (p : Port) (val : Word) (s : State) : Host.Outcome State Fault Refusal :=
  .next (s.frameCommand p Code.setTable (setHorizonEffect val))

/-- READ-PLAN of a position (R100): the member's element number, state and T (R185), or EMPTY. -/
def readPlanMember (position : Nat) (s : State) : Taken :=
  match s.plan.due[position]? with
  | some n =>
    answered s (n.val + 2 ^ 8 * (s.elements.get n).state.code + 2 ^ 16 * (s.elements.get n).projection)
  | none => declined s .empty

/-- READ-PLAN (R100): the value is examined first; the selector only for value 0. -/
def readPlanEffect (sel : Byte) (val : Word) (s : State) : Taken :=
  match val.toNat with
  | 0 => orBadArg s (within 0 63 sel.toNat) fun position => readPlanMember position s
  | 1 => answered s (s.plan.generation + 2 ^ 16 * s.plan.due.length)
  | _ => declined s .badArg

/-- READ_PLAN (R100). -/
def execReadPlan (p : Port) (sel : Byte) (val : Word) (s : State) : Host.Outcome State Fault Refusal :=
  .next (s.frameCommand p Code.readPlan (readPlanEffect sel val))

/-- The due-list members that stand in a zone (R102). -/
def State.dueMembersIn (s : State) (z : Fin 8) : Nat := s.plan.due.countP fun n => (s.elements.get n).zone = z

/-- The DUE elements of a zone (R102). -/
def State.dueElementsIn (s : State) (z : Fin 8) : Nat := s.elements.count fun e => e.zone = z && e.state = .due

/-- READ-ZONE (R102, R185). -/
def readZoneEffect (sel : Byte) (s : State) : Taken :=
  orBadArg s (finOf 8 sel.toNat) fun z =>
    let h := s.tickets.holds.get z
    answered s (s.dueMembersIn z + 2 ^ 8 * s.dueElementsIn z + 2 ^ 16 * (s.book.zones.get z).effectiveClass
      + 2 ^ 20 * h.state.code + 2 ^ 22 * flagCode h.grantA + 2 ^ 23 * flagCode h.grantB)

/-- READ_ZONE (R102). -/
def execReadZone (p : Port) (sel : Byte) (s : State) : Host.Outcome State Fault Refusal :=
  .next (s.frameCommand p Code.readZone (readZoneEffect sel))

end Sys2Proof.Machine
end

