-- ==== Sys2Proof/Machine/Elements.lean ====
section
/-! DEFINITION. The commands of the Element Table: SET-ELEMENT field by field (R61 to R65), ENABLE-ELEMENT (R66),
DISABLE-ELEMENT (R68), PRESET-WEAR (R69), ACCEPT-ELEMENT (R70), READ-ELEMENT (R60) and the speed band table (R74). -/

namespace Sys2Proof.Machine

/-- Replaces an element record. -/
def State.setElement (s : State) (n : Fin 64) (e : Element) : State := { s with elements := s.elements.set n e }

/-- Replaces an element record whose state may have changed: WORN is raised on entry to WORN (R58), and the due list
is brought into order (R98). -/
def State.restateElement (s : State) (n : Fin 64) (e : Element) : State :=
  ((s.setElement n e).raiseIf .worn
    (decide (e.state = .worn) && decide ((s.elements.get n).state ≠ .worn))).bringDue

/-- The record with its state derived and its projection recomputed (R57, R92). -/
def Element.rederived (e : Element) : Element :=
  { e with state := derivedState e.wear e.limit e.margin }.projected

/-- SET-ELEMENT of a field that is not L or M: a write of the value held changes nothing, any other is stored and the
check word recomputed (R61). -/
def storeField (n : Fin 64) (f : Element → Element) (s : State) : Taken :=
  if f (s.elements.get n) = s.elements.get n then answered s 0
  else answered (s.setElement n ((f (s.elements.get n)).checked n)) 0

/-- SET-ELEMENT of one field: the element and the new value are named, or refused BAD-ARG (R61). -/
def setElementWith {α : Type} (sel : Byte) (value : Option α) (store : Fin 64 → α → State → Taken) (s : State) :
    Taken :=
  orBadArg s (finOf 64 sel.toNat) fun n => orBadArg s value fun v => store n v s

/-- SET-ELEMENT of the zone: refused BUSY while the element is an item of a ticket (R65). -/
def setElementZoneEffect (sel : Byte) (fv : FieldValue) : State → Taken :=
  setElementWith sel (finOf 8 fv.toNat) fun n v s =>
    if s.onTicket n then declined s .busy else storeField n (fun e => { e with zone := v }) s

/-- SET-ELEMENT of the tach line: a change resets Q (R62). -/
def setElementTachLineEffect (sel : Byte) (fv : FieldValue) : State → Taken :=
  setElementWith sel (within 0 23 fv.toNat) fun n v =>
    storeField n fun e => if e.tach = v then e else { e with tach := v, residue := 0 }

/-- SET-ELEMENT of PPR: a change resets Q (R62). -/
def setElementPprEffect (sel : Byte) (fv : FieldValue) : State → Taken :=
  setElementWith sel (within 1 255 fv.toNat) fun n v =>
    storeField n fun e => if e.ppr = v then e else { e with ppr := v, residue := 0 }

/-- SET-ELEMENT of the ratio G: a change resets Q (R62). -/
def setElementRatioEffect (sel : Byte) (fv : FieldValue) : State → Taken :=
  setElementWith sel (within 1 4095 fv.toNat) fun n v =>
    storeField n fun e => if e.ratio = v then e else { e with ratio := v, residue := 0 }

/-- The reference line a field value names: 0 to 23, or 255 for absent (R61, R183). -/
def referenceWritten (v : Nat) : Option (Option Nat) :=
  if v ≤ 23 then some (some v) else if v = 255 then some none else none

/-- SET-ELEMENT of the reference line (R63). -/
def setElementReferenceLineEffect (sel : Byte) (fv : FieldValue) : State → Taken :=
  setElementWith sel (referenceWritten fv.toNat) fun n v => storeField n fun e => { e with reference := v }

/-- SET-ELEMENT of the expected ratio K (R63). -/
def setElementExpectedRatioEffect (sel : Byte) (fv : FieldValue) : State → Taken :=
  setElementWith sel (within 1 4095 fv.toNat) fun n v => storeField n fun e => { e with expected := v }

/-- SET-ELEMENT of the slip tolerance Tol, 0 clamped to 1 (R61, R63). -/
def setElementSlipToleranceEffect (sel : Byte) (fv : FieldValue) : State → Taken :=
  setElementWith sel (clampedUp 1 255 fv.toNat) fun n v => storeField n fun e => { e with tolerance := v }

/-- SET-ELEMENT of the slip weight Y, 0 to 15 clamped to 16 (R61, R63). -/
def setElementSlipWeightEffect (sel : Byte) (fv : FieldValue) : State → Taken :=
  setElementWith sel (clampedUp 16 255 fv.toNat) fun n v => storeField n fun e => { e with slipWeight := v }

/-- SET-ELEMENT of L or M (R64): on an element in use and not SUSPECT a change derives the state again and recomputes
the projection; on any other the value is stored and the check word recomputed. -/
def storeLimit (n : Fin 64) (f : Element → Element) (s : State) : Taken :=
  let e := s.elements.get n
  if f e = e then answered s 0
  else if e.accounted then answered (s.restateElement n ((f e).rederived.checked n)) 0
  else answered (s.setElement n ((f e).checked n)) 0

/-- SET-ELEMENT of the limit L (R64). -/
def setElementLimitEffect (sel : Byte) (fv : FieldValue) : State → Taken :=
  setElementWith sel (within 1 1048575 fv.toNat) fun n v => storeLimit n fun e => { e with limit := v }

/-- SET-ELEMENT of the notice margin M (R64). -/
def setElementMarginEffect (sel : Byte) (fv : FieldValue) : State → Taken :=
  setElementWith sel (within 0 1048575 fv.toNat) fun n v => storeLimit n fun e => { e with margin := v }

/-- SET_ELEMENT_ZONE (R65). -/
def execSetElementZone (p : Port) (sel : Byte) (fv : FieldValue) (s : State) : Host.Outcome State Fault Refusal :=
  .next (s.frameCommand p Code.setElement (setElementZoneEffect sel fv))

/-- SET_ELEMENT_TACH_LINE (R62). -/
def execSetElementTachLine (p : Port) (sel : Byte) (fv : FieldValue) (s : State) : Host.Outcome State Fault Refusal :=
  .next (s.frameCommand p Code.setElement (setElementTachLineEffect sel fv))

/-- SET_ELEMENT_PPR (R62). -/
def execSetElementPpr (p : Port) (sel : Byte) (fv : FieldValue) (s : State) : Host.Outcome State Fault Refusal :=
  .next (s.frameCommand p Code.setElement (setElementPprEffect sel fv))

/-- SET_ELEMENT_RATIO (R62). -/
def execSetElementRatio (p : Port) (sel : Byte) (fv : FieldValue) (s : State) : Host.Outcome State Fault Refusal :=
  .next (s.frameCommand p Code.setElement (setElementRatioEffect sel fv))

/-- SET_ELEMENT_REFERENCE_LINE (R63). -/
def execSetElementReferenceLine (p : Port) (sel : Byte) (fv : FieldValue) (s : State) :
    Host.Outcome State Fault Refusal :=
  .next (s.frameCommand p Code.setElement (setElementReferenceLineEffect sel fv))

/-- SET_ELEMENT_EXPECTED_RATIO (R63). -/
def execSetElementExpectedRatio (p : Port) (sel : Byte) (fv : FieldValue) (s : State) :
    Host.Outcome State Fault Refusal :=
  .next (s.frameCommand p Code.setElement (setElementExpectedRatioEffect sel fv))

/-- SET_ELEMENT_SLIP_TOLERANCE (R63). -/
def execSetElementSlipTolerance (p : Port) (sel : Byte) (fv : FieldValue) (s : State) :
    Host.Outcome State Fault Refusal :=
  .next (s.frameCommand p Code.setElement (setElementSlipToleranceEffect sel fv))

/-- SET_ELEMENT_SLIP_WEIGHT (R63). -/
def execSetElementSlipWeight (p : Port) (sel : Byte) (fv : FieldValue) (s : State) :
    Host.Outcome State Fault Refusal :=
  .next (s.frameCommand p Code.setElement (setElementSlipWeightEffect sel fv))

/-- SET_ELEMENT_LIMIT (R64). -/
def execSetElementLimit (p : Port) (sel : Byte) (fv : FieldValue) (s : State) : Host.Outcome State Fault Refusal :=
  .next (s.frameCommand p Code.setElement (setElementLimitEffect sel fv))

/-- SET_ELEMENT_MARGIN (R64). -/
def execSetElementMargin (p : Port) (sel : Byte) (fv : FieldValue) (s : State) : Host.Outcome State Fault Refusal :=
  .next (s.frameCommand p Code.setElement (setElementMarginEffect sel fv))

/-- SET-ELEMENT of the field an index names; field 10 and above are refused BAD-ARG (R61, R183). -/
def setElementEffect (sel idx : Byte) (fv : FieldValue) (s : State) : Taken :=
  match idx.toNat with
  | 0 => setElementZoneEffect sel fv s
  | 1 => setElementTachLineEffect sel fv s
  | 2 => setElementPprEffect sel fv s
  | 3 => setElementRatioEffect sel fv s
  | 4 => setElementReferenceLineEffect sel fv s
  | 5 => setElementExpectedRatioEffect sel fv s
  | 6 => setElementSlipToleranceEffect sel fv s
  | 7 => setElementSlipWeightEffect sel fv s
  | 8 => setElementLimitEffect sel fv s
  | 9 => setElementMarginEffect sel fv s
  | _ => declined s .badArg

/-! ## Taking elements in and out of the account -/

/-- The record of an element brought into use (R66). -/
def Element.enabled (e : Element) (n : Fin 64) : Element :=
  ({ e with carry := 0, residue := 0, accumulator := 0, slipCount := 0, unfed := false, rate := 0,
            seeded := false }.rederived).checked n

/-- ENABLE-ELEMENT (R66). -/
def enableElementEffect (sel : Byte) (s : State) : Taken :=
  orBadArg s (finOf 64 sel.toNat) fun n =>
    if (s.elements.get n).inUse then declined s .already
    else if !(s.elements.get n).inRange then declined s .incomplete
    else answered (s.restateElement n ((s.elements.get n).enabled n)) 0

/-- ENABLE_ELEMENT (R66). -/
def execEnableElement (p : Port) (sel : Byte) (s : State) : Host.Outcome State Fault Refusal :=
  .next (s.frameCommand p Code.enableElement (enableElementEffect sel))

/-- DISABLE-ELEMENT (R68). -/
def disableElementEffect (sel : Byte) (s : State) : Taken :=
  orBadArg s (finOf 64 sel.toNat) fun n =>
    if s.onTicket n then declined s .busy
    else if !(s.elements.get n).inUse then answered s 0
    else answered (s.restateElement n { s.elements.get n with state := .idle, unfed := false }) 0

/-- DISABLE_ELEMENT (R68). -/
def execDisableElement (p : Port) (sel : Byte) (s : State) : Host.Outcome State Fault Refusal :=
  .next (s.frameCommand p Code.disableElement (disableElementEffect sel))

/-- PRESET-WEAR (R69). -/
def presetWearEffect (sel : Byte) (val : Word) (s : State) : Taken :=
  orBadArg s (finOf 64 sel.toNat) fun n =>
    if (s.elements.get n).inUse then declined s .busy
    else answered (s.setElement n ({ s.elements.get n with wear := val.toNat }.checked n)) 0

/-- PRESET_WEAR (R69). -/
def execPresetWear (p : Port) (sel : Byte) (val : Word) (s : State) : Host.Outcome State Fault Refusal :=
  .next (s.frameCommand p Code.presetWear (presetWearEffect sel val))

/-- The record of a SUSPECT element returned to the account (R70). -/
def Element.accepted (e : Element) (n : Fin 64) : Element :=
  ({ e with residue := if e.residue < e.ppr then e.residue else 0 }.rederived).checked n

/-- ACCEPT-ELEMENT (R70). -/
def acceptElementEffect (sel : Byte) (s : State) : Taken :=
  orBadArg s (finOf 64 sel.toNat) fun n =>
    if (s.elements.get n).state ≠ .suspect then answered s 0
    else if !(s.elements.get n).inRange then declined s .incomplete
    else answered (s.restateElement n ((s.elements.get n).accepted n)) 0

/-- ACCEPT_ELEMENT (R70). -/
def execAcceptElement (p : Port) (sel : Byte) (s : State) : Host.Outcome State Fault Refusal :=
  .next (s.frameCommand p Code.acceptElement (acceptElementEffect sel))

/-! ## Reads and the speed band table -/

/-- A field of an element record as read (R60, R183). -/
def Element.field (e : Element) (n : Nat) : Option Nat :=
  match n with
  | 0 => some e.zone.val
  | 1 => some e.tach
  | 2 => some e.ppr
  | 3 => some e.ratio
  | 4 => some (referenceCode e.reference)
  | 5 => some e.expected
  | 6 => some e.tolerance
  | 7 => some e.slipWeight
  | 8 => some e.limit
  | 9 => some e.margin
  | 10 => some e.state.code
  | 11 => some (flagCode e.unfed)
  | 12 => some e.wear
  | 13 => some e.carry
  | 14 => some e.residue
  | 15 => some e.accumulator
  | 16 => some e.renewCount
  | 17 => some e.slipCount
  | 18 => some e.check
  | 19 => some e.rate
  | 20 => some (flagCode e.seeded)
  | 21 => some e.projection
  | _ => none

/-- READ-ELEMENT (R60). -/
def readElementEffect (sel : Byte) (val : Word) (s : State) : Taken :=
  orBadArg s (finOf 64 sel.toNat) fun n =>
    orBadArg s ((s.elements.get n).field val.toNat) fun d => answered s d

/-- READ_ELEMENT (R60). -/
def execReadElement (p : Port) (sel : Byte) (val : Word) (s : State) : Host.Outcome State Fault Refusal :=
  .next (s.frameCommand p Code.readElement (readElementEffect sel val))

/-- SET-TABLE of a speed band bound (R74). -/
def setSpeedBandBoundEffect (idx : Byte) (fv : FieldValue) (s : State) : Taken :=
  orBadArg s (finOf 8 idx.toNat) fun i =>
    orBadArg s (within 0 65535 fv.toNat) fun v =>
      answered { s with bands := s.bands.modify i fun b => { b with bound := v } } 0

/-- SET_SPEED_BAND_BOUND (R74). -/
def execSetSpeedBandBound (p : Port) (idx : Byte) (fv : FieldValue) (s : State) : Host.Outcome State Fault Refusal :=
  .next (s.frameCommand p Code.setTable (setSpeedBandBoundEffect idx fv))

/-- SET-TABLE of a speed band factor (R74). -/
def setSpeedBandFactorEffect (idx : Byte) (fv : FieldValue) (s : State) : Taken :=
  orBadArg s (finOf 8 idx.toNat) fun i =>
    orBadArg s (within 0 255 fv.toNat) fun v =>
      answered { s with bands := s.bands.modify i fun b => { b with factor := v } } 0

/-- SET_SPEED_BAND_FACTOR (R74). -/
def execSetSpeedBandFactor (p : Port) (idx : Byte) (fv : FieldValue) (s : State) : Host.Outcome State Fault Refusal :=
  .next (s.frameCommand p Code.setTable (setSpeedBandFactorEffect idx fv))

end Sys2Proof.Machine
end

