-- ==== Sys2Proof/Machine/Tickets.lean ====
section
/-! DEFINITION. The Ticket Unit: OPEN-TICKET, ADD-ITEM, START-TICKET (R111 to R114), GRANT and REVOKE (R115 to R117),
the grant timer's expiry (R118), the motion report (R120, R121), RENEW and INSPECT (R123 to R125), CLOSE-TICKET
(R126), READ-TICKET (R127), and the grant time (R110). -/

namespace Sys2Proof.Machine

/-- Runs `f` on the ticket that bears a number, or refuses NO-TICKET. -/
def withTicket (s : State) (n : Nat) (f : Ticket → Taken) : Taken :=
  match s.ticket? n with
  | some t => f t
  | none => declined s .noTicket

/-! ## Opening and building -/

/-- The ticket number after `n`, 1 following 255 (R107). -/
def numberAfter (n : Nat) : Nat := if n = 255 then 1 else n + 1

/-- The first number from `n` on that is not in use, looking at `steps` numbers at most before giving the one reached
(R107: with at most 8 in use, 9 steps find one). -/
def freeNumber (used : List Nat) : Nat → Nat → Nat
  | 0, n => n
  | steps + 1, n => if n ∈ used then freeNumber used steps (numberAfter n) else n

/-- The number the next ticket is given (R107). -/
def State.nextNumber (s : State) : Nat := freeNumber (s.tickets.table.map Ticket.number) 9 s.tickets.next

/-- The ticket OPEN-TICKET creates (R111). -/
def Ticket.opened (number : Nat) (zone : Fin 8) (e : Fin 64) : Ticket :=
  { number := number, zone := zone, state := .planned, items := [⟨e, .pending⟩], timer := 0, everWorked := false,
    accessSeen := false }

/-- OPEN-TICKET (R111). -/
def openTicketEffect (sel : Byte) (s : State) : Taken :=
  orBadArg s (finOf 64 sel.toNat) fun e =>
    if Config.ticketCapacity ≤ s.tickets.table.length then declined s .full
    else if !(s.elements.get e).inUse then declined s .notInUse
    else if s.onTicket e then declined s .busy
    else
      answered { s with
        tickets.table := s.tickets.table ++ [.opened s.nextNumber (s.elements.get e).zone e]
        tickets.next := numberAfter s.nextNumber } s.nextNumber

/-- OPEN_TICKET (R111). -/
def execOpenTicket (p : Port) (sel : Byte) (s : State) : Host.Outcome State Fault Refusal :=
  .next (s.frameCommand p Code.openTicket (openTicketEffect sel))

/-- ADD-ITEM (R112). -/
def addItemEffect (sel : Byte) (val : Word) (s : State) : Taken :=
  orBadArg s (finOf 64 val.toNat) fun e =>
    withTicket s sel.toNat fun t =>
      if t.state ≠ .planned then declined s .notPlanned
      else if !(s.elements.get e).inUse then declined s .notInUse
      else if s.onTicket e then declined s .busy
      else if (s.elements.get e).zone ≠ t.zone then declined s .zoneMix
      else if Config.itemCapacity ≤ t.items.length then declined s .full
      else
        answered (s.mapTicket t.number fun u => { u with items := u.items ++ [⟨e, .pending⟩] })
          (t.items.length + 1)

/-- ADD_ITEM (R112). -/
def execAddItem (p : Port) (sel : Byte) (val : Word) (s : State) : Host.Outcome State Fault Refusal :=
  .next (s.frameCommand p Code.addItem (addItemEffect sel val))

/-! ## Starting -/

/-- The state of the zone's hold record once a ticket of it is started (R113). -/
def startedHold (before : HoldState) (o : Owner) : HoldState :=
  match before, o with
  | .free, .nobody => .held
  | .free, _ => .requested
  | .requested, _ => .requested
  | .held, _ => .held

/-- A started ticket: WORKING in a zone that is HELD once it is started, else AWAITING with its timer loaded (R113,
R116). -/
def Ticket.started (t : Ticket) (zone : HoldState) (guardOpen : Bool) (ms : Nat) : Ticket :=
  match zone with
  | .held => t.enterWorking guardOpen
  | .free => t.enterAwaiting ms
  | .requested => t.enterAwaiting ms

/-- A ticket is started: demand rises, the ticket and the hold record take their states, and a zone that leaves FREE is
followed by the bringing of R160 (R113, R114). -/
def State.startTicket (s : State) (t : Ticket) : State :=
  let before := (s.tickets.holds.get t.zone).state
  let after := startedHold before (s.owner t.zone)
  let s1 := s.mapHold t.zone fun h => { h with state := after, demand := h.demand + 1 }
  let s2 := s1.mapTicket t.number fun u => u.started after (s.guardOpen t.zone) s.grantMs
  if before = .free then s2.bring else s2

/-- The state code of a ticket, as an answer carries it (R113, R185). -/
def State.ticketCode (s : State) (n : Nat) : Nat :=
  match s.ticket? n with
  | some t => t.state.code
  | none => 0

/-- START-TICKET (R113). -/
def startTicketEffect (sel : Byte) (s : State) : Taken :=
  withTicket s sel.toNat fun t =>
    if t.active then declined s .already
    else answered (s.startTicket t) ((s.startTicket t).ticketCode t.number)

/-- START_TICKET (R113). -/
def execStartTicket (p : Port) (sel : Byte) (s : State) : Host.Outcome State Fault Refusal :=
  .next (s.frameCommand p Code.startTicket (startTicketEffect sel))

/-! ## Grants -/

/-- The hold state of a zone, as an answer carries it (R115, R181, R185). -/
def State.holdCode (s : State) (z : Fin 8) : Nat := (s.tickets.holds.get z).state.code

/-- A grant recorded; a zone whose owners have now all granted becomes HELD (R115, R116). -/
def State.recordGrant (s : State) (z : Fin 8) (side : Side) : State :=
  let s1 := s.mapHold z fun h => h.withGrant side true
  if (s1.owner z).allGranted (s1.tickets.holds.get z) then s1.makeHeld z else s1

/-- GRANT (R115). -/
def grantEffect (p : Port) (sel : Byte) (s : State) : Taken :=
  orBadArg s (finOf 8 sel.toNat) fun z =>
    match sideOf p with
    | none => declined s .notPermitted
    | some side =>
      if !(s.owner z).has side then declined s .notOwner
      else if (s.tickets.holds.get z).state = .free then declined s .notRequested
      else if (s.tickets.holds.get z).grant side then answered s (s.holdCode z)
      else answered (s.recordGrant z side) ((s.recordGrant z side).holdCode z)

/-- GRANT (R115). -/
def execGrant (p : Port) (sel : Byte) (s : State) : Host.Outcome State Fault Refusal :=
  .next (s.frameCommand p Code.grant (grantEffect p sel))

/-- A grant withdrawn; a HELD zone becomes REQUESTED and its WORKING tickets AWAITING (R117). -/
def State.withdrawGrant (s : State) (z : Fin 8) (side : Side) : State :=
  let s1 := s.mapHold z fun h => h.withGrant side false
  if (s.tickets.holds.get z).state = .held then
    (s1.dropWorking z).mapHold z fun h => { h with state := .requested }
  else s1

/-- REVOKE (R117); the answer carries the hold state (R181). -/
def revokeEffect (p : Port) (sel : Byte) (s : State) : Taken :=
  orBadArg s (finOf 8 sel.toNat) fun z =>
    match sideOf p with
    | none => declined s .notPermitted
    | some side =>
      if !(s.owner z).has side then declined s .notOwner
      else if !(s.tickets.holds.get z).grant side then declined s .notGranted
      else answered (s.withdrawGrant z side) ((s.withdrawGrant z side).holdCode z)

/-- REVOKE (R117). -/
def execRevoke (p : Port) (sel : Byte) (s : State) : Host.Outcome State Fault Refusal :=
  .next (s.frameCommand p Code.revoke (revokeEffect p sel))

/-! ## Expiry and motion -/

/-- An AWAITING ticket's grant timer expires (R118): STALLED, STALL at the Maintenance Port and at the zone's owners,
demand down, and the zone released at 0. -/
def State.expireTicket (s : State) (t : Ticket) : State :=
  ((((s.mapTicket t.number Ticket.enterStalled).raiseAt .stall .m).raiseOwners .stall t.zone)).lowerDemand t.zone

/-- The expiry of the timer of ticket `n`, if it is AWAITING and the timers run (R118). -/
def State.expireNumber (s : State) (n : Nat) : State :=
  match s.ticket? n with
  | some t => if s.running && decide (t.state = .awaiting) then s.expireTicket t else s
  | none => s

/-- GRANT_TIMER_EXPIRY (R118). -/
def execGrantTimerExpiry (ticket : Byte) (s : State) : Host.Outcome State Fault Refusal :=
  .next (s.expireNumber ticket.toNat)

/-- MOTION_REPORT (R120): the report of a zone, if one is outstanding (R81; log 6). -/
def execMotionReport (zone : Fin 8) (s : State) : Host.Outcome State Fault Refusal :=
  .next (if s.running then s.takeReportIf zone else s)

/-! ## Renewal and inspection -/

/-- The item of a ticket that names an element (R123). -/
def Ticket.item? (t : Ticket) (e : Fin 64) : Option Item := t.items.find? fun i => i.element = e

/-- The checks of R123, in their order. -/
def checkedItem (sel : Byte) (val : Word) (s : State) (f : Fin 64 → Ticket → Taken) : Taken :=
  orBadArg s (finOf 64 val.toNat) fun e =>
    withTicket s sel.toNat fun t =>
      if t.state ≠ .working then declined s .notWorking
      else match t.item? e with
        | none => declined s .notItem
        | some i =>
          if i.outcome ≠ .pending then declined s .already
          else if s.hasGuard t.zone && !t.accessSeen then declined s .noAccess
          else f e t

/-- The items of a ticket with one element's outcome written (R124, R125). -/
def Ticket.resolved (t : Ticket) (e : Fin 64) (o : ItemOutcome) : Ticket :=
  { t with items := t.items.map fun i => if i.element = e then { i with outcome := o } else i }

/-- The record of a renewed element (R94, R124). -/
def Element.renewed (e : Element) (n : Fin 64) : Element :=
  ({ e with wear := 0, carry := 0, residue := 0, accumulator := 0,
            renewCount := saturate Config.countTop (e.renewCount + 1), state := .fresh }.projected).checked n

/-- A RENEW that passes its checks (R124). -/
def State.renewItem (s : State) (n : Fin 64) (t : Ticket) : State :=
  let e := s.elements.get n
  let s1 := s.appendLog n t.number .renewed e.wear (saturate Config.countTop (e.renewCount + 1))
  let s2 := (s1.restateElement n (e.renewed n)).mapTicket t.number fun u => u.resolved n .renewed
  { s2 with history.markers.service := true }

/-- RENEW (R123, R124); the answer carries the renew count after it. -/
def renewEffect (sel : Byte) (val : Word) (s : State) : Taken :=
  checkedItem sel val s fun n t =>
    answered (s.renewItem n t) (saturate Config.countTop ((s.elements.get n).renewCount + 1))

/-- RENEW (R124). -/
def execRenew (p : Port) (sel : Byte) (val : Word) (s : State) : Host.Outcome State Fault Refusal :=
  .next (s.frameCommand p Code.renew (renewEffect sel val))

/-- An INSPECT that passes its checks (R125). -/
def State.inspectItem (s : State) (n : Fin 64) (t : Ticket) : State :=
  (s.appendLog n t.number .inspected (s.elements.get n).wear (s.elements.get n).renewCount).mapTicket t.number
    fun u => u.resolved n .inspected

/-- INSPECT (R123, R125). -/
def inspectEffect (sel : Byte) (val : Word) (s : State) : Taken :=
  checkedItem sel val s fun n t => answered (s.inspectItem n t) 0

/-- INSPECT (R125). -/
def execInspect (p : Port) (sel : Byte) (val : Word) (s : State) : Host.Outcome State Fault Refusal :=
  .next (s.frameCommand p Code.inspect (inspectEffect sel val))

/-! ## Closing -/

/-- The elements a close hands to the log as NOT-DONE, in item order (R126, R137). -/
def Ticket.notDone (t : Ticket) : List (Fin 64) :=
  if t.everWorked then (t.items.filter fun i => i.outcome = .pending).map Item.element else []

/-- One NOT-DONE record (R137). -/
def State.logNotDone (ticket : Nat) (s : State) (n : Fin 64) : State :=
  s.appendLog n ticket .notDone (s.elements.get n).wear (s.elements.get n).renewCount

/-- A ticket is closed (R126). -/
def State.closeTicket (s : State) (t : Ticket) : State :=
  let s1 := t.notDone.foldl (State.logNotDone t.number) s
  let s2 := { s1 with tickets.table := s1.tickets.table.filter fun u => u.number != t.number }
  if t.active then s2.lowerDemand t.zone else s2

/-- CLOSE-TICKET (R126). -/
def closeTicketEffect (sel : Byte) (s : State) : Taken :=
  withTicket s sel.toNat fun t => answered (s.closeTicket t) t.notDone.length

/-- CLOSE_TICKET (R126). -/
def execCloseTicket (p : Port) (sel : Byte) (s : State) : Host.Outcome State Fault Refusal :=
  .next (s.frameCommand p Code.closeTicket (closeTicketEffect sel))

/-! ## Reading -/

/-- The ticket numbers in ascending order (R127). -/
def State.ticketNumbers (s : State) : List Nat := (s.tickets.table.map Ticket.number).insertionSort (· ≤ ·)

/-- A whole number of seconds, rounded up (R118). -/
def secondsUp (ms : Nat) : Nat := (ms + 999) / 1000

/-- READ-TICKET of the table as a whole (R127, R185). -/
def readTicketTable (part : Nat) (s : State) : Taken :=
  if part ≤ 7 then
    match s.ticketNumbers[part]? with
    | some n => answered s n
    | none => declined s .empty
  else if part = 8 then answered s (s.tickets.table.length + 2 ^ 8 * s.tickets.next)
  else declined s .badArg

/-- READ-TICKET of one ticket (R127, R185). -/
def readTicketPart (t : Ticket) (part : Nat) (s : State) : Taken :=
  match part with
  | 0 => answered s (t.zone.val + 2 ^ 8 * t.state.code + 2 ^ 16 * t.items.length
      + 2 ^ 24 * flagCode t.everWorked + 2 ^ 25 * flagCode t.accessSeen)
  | 1 => answered s (secondsUp t.timer)
  | k =>
    match t.items[k - 2]? with
    | some i => answered s (i.element.val + 2 ^ 8 * i.outcome.code)
    | none => declined s .empty

/-- READ-TICKET (R127): the value is checked first. -/
def readTicketEffect (sel : Byte) (val : Word) (s : State) : Taken :=
  if sel = 0 then readTicketTable val.toNat s
  else orBadArg s (within 0 7 val.toNat) fun part => withTicket s sel.toNat fun t => readTicketPart t part s

/-- READ_TICKET (R127). -/
def execReadTicket (p : Port) (sel : Byte) (val : Word) (s : State) : Host.Outcome State Fault Refusal :=
  .next (s.frameCommand p Code.readTicket (readTicketEffect sel val))

/-- SET-TABLE of the grant time, 0 clamped to 1 (R110). -/
def setGrantTimeEffect (val : Word) (s : State) : Taken :=
  orBadArg s (clampedUp 1 65535 val.toNat) fun v => answered { s with tickets.grantTime := v } 0

/-- SET_GRANT_TIME (R110). -/
def execSetGrantTime (p : Port) (val : Word) (s : State) : Host.Outcome State Fault Refusal :=
  .next (s.frameCommand p Code.setTable (setGrantTimeEffect val))

end Sys2Proof.Machine
end

