-- ==== Sys2Proof/Machine/Tables.lean ====
section
/-! DEFINITION. The table items of R182 that belong to the State Controller and the contact-scan timer (R11, R157), the
item a SET-TABLE or READ-TABLE frame names, and READ-TABLE. -/

namespace Sys2Proof.Machine

/-- A line port's fitted flag written (R157). -/
def Control.withFitted (c : Control) (side : Side) (b : Bool) : Control :=
  match side with
  | .a => { c with fittedA := b }
  | .b => { c with fittedB := b }

/-- SET-TABLE of a fitted flag, followed by the bringing of R160 (R157). -/
def setFittedFlagEffect (side : Side) (val : Word) (s : State) : Taken :=
  orBadArg s (flagOf val.toNat) fun b => answered ({ s with ctl := s.ctl.withFitted side b }).bring 0

/-- SET_FITTED_FLAG (R157). -/
def execSetFittedFlag (p : Port) (side : Side) (val : Word) (s : State) : Host.Outcome State Fault Refusal :=
  .next (s.frameCommand p Code.setTable (setFittedFlagEffect side val))

/-- SET-TABLE of the quiet scan index; the timer restarts if QUIET is in force (R11). -/
def setQuietScanIndexEffect (val : Word) (s : State) : Taken :=
  orBadArg s (within 0 15 val.toNat) fun v =>
    let s1 := { s with scan.quietIndex := v }
    answered (if s.ctl.op = .quiet then s1.restartScan else s1) 0

/-- SET_QUIET_SCAN_INDEX (R11). -/
def execSetQuietScanIndex (p : Port) (val : Word) (s : State) : Host.Outcome State Fault Refusal :=
  .next (s.frameCommand p Code.setTable (setQuietScanIndexEffect val))

/-- SET-TABLE of the park scan index; no command is taken in PARKED, so it waits for its state (R11). -/
def setParkScanIndexEffect (val : Word) (s : State) : Taken :=
  orBadArg s (within 0 15 val.toNat) fun v =>
    let s1 := { s with scan.parkIndex := v }
    answered (if s.ctl.op = .parked then s1.restartScan else s1) 0

/-- SET_PARK_SCAN_INDEX (R11). -/
def execSetParkScanIndex (p : Port) (val : Word) (s : State) : Host.Outcome State Fault Refusal :=
  .next (s.frameCommand p Code.setTable (setParkScanIndexEffect val))

/-- SET-TABLE of the item a selector names (R182); an item marked refused, or above 20, is refused BAD-ARG. -/
def setTableEffect (item : Byte) (val : Word) (s : State) : Taken :=
  match item.toNat with
  | 0 => setEpochDividerEffect val s
  | 2 => setWindowLengthEffect val s
  | 5 => setHistoryModeEffect val s
  | 6 => setZoneOwnerEffect (indexOf val) (fieldValueOf val) s
  | 7 => setFallbackClassEffect (indexOf val) (fieldValueOf val) s
  | 8 => setHoldTimeEffect (indexOf val) (fieldValueOf val) s
  | 11 => setLoadWeightEffect (indexOf val) (fieldValueOf val) s
  | 12 => setSpeedBandBoundEffect (indexOf val) (fieldValueOf val) s
  | 13 => setSpeedBandFactorEffect (indexOf val) (fieldValueOf val) s
  | 14 => setSmoothingShiftEffect val s
  | 15 => setHorizonEffect val s
  | 16 => setGrantTimeEffect val s
  | 17 => setFittedFlagEffect .a val s
  | 18 => setFittedFlagEffect .b val s
  | 19 => setQuietScanIndexEffect val s
  | 20 => setParkScanIndexEffect val s
  | _ => declined s .badArg

/-- A load report as READ-TABLE returns it (R182, item 9). -/
def LoadReport.data (r : LoadReport) : Nat := r.cls + 2 ^ 8 * r.hold + 2 ^ 16 * flagCode r.lapsed

/-- The record an index names of a table of eight, as READ-TABLE returns it. -/
def indexedItem {α : Type} (t : Table α 8) (idx : Nat) (f : α → Nat) : Option Nat :=
  (finOf 8 idx).map fun i => f (t.get i)

/-- A table item as READ-TABLE returns it (R182); none for an item or an index out of range. -/
def State.tableItem (s : State) (item idx : Nat) : Option Nat :=
  match item with
  | 0 => some s.pacer.divider
  | 1 => some s.pacer.ms
  | 2 => some s.window.length
  | 3 => some s.window.remaining
  | 4 => some s.window.seq
  | 5 => some s.history.mode.code
  | 6 => indexedItem s.book.zones idx fun b => b.owner.code
  | 7 => indexedItem s.book.zones idx fun b => b.fallback
  | 8 => indexedItem s.book.zones idx fun b => b.holdTime
  | 9 => indexedItem s.book.zones idx fun b => b.reportA.data
  | 10 => indexedItem s.book.zones idx fun b => b.reportB.data
  | 11 => indexedItem s.book.weights idx id
  | 12 => indexedItem s.bands idx Band.bound
  | 13 => indexedItem s.bands idx Band.factor
  | 14 => some s.plan.shift
  | 15 => some s.plan.horizon
  | 16 => some s.tickets.grantTime
  | 17 => some (flagCode s.ctl.fittedA)
  | 18 => some (flagCode s.ctl.fittedB)
  | 19 => some s.scan.quietIndex
  | 20 => some s.scan.parkIndex
  | _ => none

/-- READ-TABLE (R182). -/
def readTableEffect (item idx : Byte) (s : State) : Taken :=
  orBadArg s (s.tableItem item.toNat idx.toNat) fun d => answered s d

/-- READ_TABLE (R182). -/
def execReadTable (p : Port) (item idx : Byte) (s : State) : Host.Outcome State Fault Refusal :=
  .next (s.frameCommand p Code.readTable (readTableEffect item idx))

end Sys2Proof.Machine
end

