-- ==== Sys2Proof/Machine/Frames.lean ====
section
/-! DEFINITION. The frame events: FRAME_BEGIN (R173), FRAME_END with the decoding of the whole frame (R174, R179 to
R184), UNKNOWN_CODE (R179), BAD_FRAME (R177) and VOID_FRAME_DISCARD (R178). -/

namespace Sys2Proof.Machine

/-- What the command of a code does with a selector and a value, the pins standing at `levels` (R180, R181). A code
that names no command is answered UNKNOWN before this is asked (R179). -/
def commandEffect (p : Port) (code sel : Byte) (val : Word) (levels : Pins) (s : State) : Taken :=
  match code.toNat with
  | 0x00 => nopEffect s
  | 0x01 => readStatusEffect sel s
  | 0x02 => readNoticesEffect p sel s
  | 0x03 => setNoticeMaskEffect p val s
  | 0x04 => pageEffect sel s
  | 0x05 => unfreezeEffect s
  | 0x08 => voteEffect p val s
  | 0x09 => shiftMarkEffect s
  | 0x0A => loadEffect p sel val s
  | 0x0B => grantEffect p sel s
  | 0x0C => revokeEffect p sel s
  | 0x10 => readLinesEffect levels s
  | 0x11 => setLineEffect sel (indexOf val) (fieldValueOf val) s
  | 0x12 => readLineSettingEffect sel val s
  | 0x13 => setLineLevelEffect sel val s
  | 0x18 => setTableEffect sel val s
  | 0x19 => readTableEffect sel (indexOf val) s
  | 0x20 => readElementEffect sel val s
  | 0x21 => setElementEffect sel (indexOf val) (fieldValueOf val) s
  | 0x22 => enableElementEffect sel s
  | 0x23 => disableElementEffect sel s
  | 0x24 => presetWearEffect sel val s
  | 0x25 => acceptElementEffect sel s
  | 0x28 => readPlanEffect sel val s
  | 0x29 => readZoneEffect sel s
  | 0x30 => openTicketEffect sel s
  | 0x31 => addItemEffect sel val s
  | 0x32 => startTicketEffect sel s
  | 0x33 => renewEffect sel val s
  | 0x34 => inspectEffect sel val s
  | 0x35 => closeTicketEffect sel s
  | 0x36 => readTicketEffect sel val s
  | 0x38 => readHistoryEffect p sel s
  | 0x39 => rewindHistoryEffect p s
  | 0x3A => clearHistoryEffect s
  | 0x3C => readLogEffect p sel s
  | 0x3D => rewindLogEffect p s
  | 0x3E => clearLogEffect s
  | 0x3F => softResetEffect s
  | 0x7F => clearAllEffect s
  | _ => declined s .unknown

/-- FRAME_BEGIN (R173). -/
def execFrameBegin (p : Port) (s : State) : Host.Outcome State Fault Refusal :=
  .next (s.beginFrame p)

/-- A frame error (R177): FRAME is raised at the port and the BAD-FRAME answer staged, its data the frame bit count. -/
def State.frameError (s : State) (p : Port) : State :=
  (s.raiseAt .frame p).mapPort p fun i => { i with staged := ⟨.badFrame, 0xFF, BitVec.ofNat 32 i.bitCount⟩ }

/-- Chip select is released on a port after `edges` rising clock edges that brought `frame` (R174). Without a frame
under way there is nothing to release; in RETAINED the frame is abandoned (R165). -/
def State.releaseFrame (s : State) (p : Port) (edges : Nat) (frame : FrameWord) (levels : Pins) : State :=
  if (s.ports.get p).select = false then s
  else if s.ctl.op = .retained then s.mapPort p fun i => { i with select := false }
  else if (s.ports.get p).void then s.discardVoid p edges
  else if edges = 48 then
    (s.endFrame p edges).takeCommand p (codeOf frame)
      (commandEffect p (codeOf frame) (selectorOf frame) (valueOf frame) levels)
  else (s.endFrame p edges).frameError p

/-- FRAME_END (R174): the release of chip select, the bits clocked in since its assertion given with it (log 3). -/
def execFrameEnd (p : Port) (edges : Nat) (frame : FrameWord) (levels : Pins) (s : State) :
    Host.Outcome State Fault Refusal :=
  .next (s.releaseFrame p edges frame levels)

/-- UNKNOWN_CODE (R179): a whole frame whose code byte is `code`, its other bytes 0. -/
def execUnknownCode (p : Port) (code : Byte) (s : State) : Host.Outcome State Fault Refusal :=
  .next (s.frameCommand p code (commandEffect p code noSelector noValue s.pins.input))

/-- BAD_FRAME (R177): a chip-select period of `edges` bits, the one under way on the port or, where none is, one that
begins and ends in this step (log 2); the bits clocked in are 0. -/
def execBadFrame (p : Port) (edges : Nat) (s : State) : Host.Outcome State Fault Refusal :=
  .next ((s.beginFrame p).releaseFrame p edges 0 s.pins.input)

/-- VOID_FRAME_DISCARD (R178): the release of a frame that a start made void, `edges` bits after that start. -/
def execVoidFrameDiscard (p : Port) (s : State) (edges : Nat := 48) : Host.Outcome State Fault Refusal :=
  .next (if (s.ports.get p).void then s.discardVoid p edges else s)

end Sys2Proof.Machine
end

