-- ==== Sys2Proof/Machine/Dispatch.lean ====
section
/-! DEFINITION. One arm for each row of spec/opcode_table.json, each a direct call of the row's own meaning. -/

namespace Sys2Proof.Machine

/-- The effect of a command on everything but the queue. -/
def exec (i : Instr) (s : State) : Host.Outcome State Fault Refusal :=
  match i with
  | .nop p => Sys2Proof.Machine.execNop p s
  | .readStatus p sel => Sys2Proof.Machine.execReadStatus p sel s
  | .readNotices p sel => Sys2Proof.Machine.execReadNotices p sel s
  | .setNoticeMask p val => Sys2Proof.Machine.execSetNoticeMask p val s
  | .page p sel => Sys2Proof.Machine.execPage p sel s
  | .unfreeze p => Sys2Proof.Machine.execUnfreeze p s
  | .vote p val => Sys2Proof.Machine.execVote p val s
  | .shiftMark p => Sys2Proof.Machine.execShiftMark p s
  | .load p sel val => Sys2Proof.Machine.execLoad p sel val s
  | .grant p sel => Sys2Proof.Machine.execGrant p sel s
  | .revoke p sel => Sys2Proof.Machine.execRevoke p sel s
  | .readLines p levels => Sys2Proof.Machine.execReadLines p levels s
  | .setLineFunction p sel fv => Sys2Proof.Machine.execSetLineFunction p sel fv s
  | .setLineDirection p sel fv => Sys2Proof.Machine.execSetLineDirection p sel fv s
  | .setLineLevelField p sel fv => Sys2Proof.Machine.execSetLineLevelField p sel fv s
  | .setLinePullUp p sel fv => Sys2Proof.Machine.execSetLinePullUp p sel fv s
  | .setLineFloat p sel fv => Sys2Proof.Machine.execSetLineFloat p sel fv s
  | .setLineSensingMode p sel fv => Sys2Proof.Machine.execSetLineSensingMode p sel fv s
  | .setLinePolarity p sel fv => Sys2Proof.Machine.execSetLinePolarity p sel fv s
  | .setLineWakeEnable p sel fv => Sys2Proof.Machine.execSetLineWakeEnable p sel fv s
  | .setLineZone p sel fv => Sys2Proof.Machine.execSetLineZone p sel fv s
  | .setLineOwnerSide p sel fv => Sys2Proof.Machine.execSetLineOwnerSide p sel fv s
  | .readLineSetting p sel val => Sys2Proof.Machine.execReadLineSetting p sel val s
  | .setLineLevel p sel val => Sys2Proof.Machine.execSetLineLevel p sel val s
  | .setEpochDivider p val => Sys2Proof.Machine.execSetEpochDivider p val s
  | .setWindowLength p val => Sys2Proof.Machine.execSetWindowLength p val s
  | .setHistoryMode p val => Sys2Proof.Machine.execSetHistoryMode p val s
  | .setZoneOwner p idx fv => Sys2Proof.Machine.execSetZoneOwner p idx fv s
  | .setFallbackClass p idx fv => Sys2Proof.Machine.execSetFallbackClass p idx fv s
  | .setHoldTime p idx fv => Sys2Proof.Machine.execSetHoldTime p idx fv s
  | .setLoadWeight p idx fv => Sys2Proof.Machine.execSetLoadWeight p idx fv s
  | .setSpeedBandBound p idx fv => Sys2Proof.Machine.execSetSpeedBandBound p idx fv s
  | .setSpeedBandFactor p idx fv => Sys2Proof.Machine.execSetSpeedBandFactor p idx fv s
  | .setSmoothingShift p val => Sys2Proof.Machine.execSetSmoothingShift p val s
  | .setHorizon p val => Sys2Proof.Machine.execSetHorizon p val s
  | .setGrantTime p val => Sys2Proof.Machine.execSetGrantTime p val s
  | .setFittedFlag p side val => Sys2Proof.Machine.execSetFittedFlag p side val s
  | .setQuietScanIndex p val => Sys2Proof.Machine.execSetQuietScanIndex p val s
  | .setParkScanIndex p val => Sys2Proof.Machine.execSetParkScanIndex p val s
  | .readTable p item idx => Sys2Proof.Machine.execReadTable p item idx s
  | .readElement p sel val => Sys2Proof.Machine.execReadElement p sel val s
  | .setElementZone p sel fv => Sys2Proof.Machine.execSetElementZone p sel fv s
  | .setElementTachLine p sel fv => Sys2Proof.Machine.execSetElementTachLine p sel fv s
  | .setElementPpr p sel fv => Sys2Proof.Machine.execSetElementPpr p sel fv s
  | .setElementRatio p sel fv => Sys2Proof.Machine.execSetElementRatio p sel fv s
  | .setElementReferenceLine p sel fv => Sys2Proof.Machine.execSetElementReferenceLine p sel fv s
  | .setElementExpectedRatio p sel fv => Sys2Proof.Machine.execSetElementExpectedRatio p sel fv s
  | .setElementSlipTolerance p sel fv => Sys2Proof.Machine.execSetElementSlipTolerance p sel fv s
  | .setElementSlipWeight p sel fv => Sys2Proof.Machine.execSetElementSlipWeight p sel fv s
  | .setElementLimit p sel fv => Sys2Proof.Machine.execSetElementLimit p sel fv s
  | .setElementMargin p sel fv => Sys2Proof.Machine.execSetElementMargin p sel fv s
  | .enableElement p sel => Sys2Proof.Machine.execEnableElement p sel s
  | .disableElement p sel => Sys2Proof.Machine.execDisableElement p sel s
  | .presetWear p sel val => Sys2Proof.Machine.execPresetWear p sel val s
  | .acceptElement p sel => Sys2Proof.Machine.execAcceptElement p sel s
  | .readPlan p sel val => Sys2Proof.Machine.execReadPlan p sel val s
  | .readZone p sel => Sys2Proof.Machine.execReadZone p sel s
  | .openTicket p sel => Sys2Proof.Machine.execOpenTicket p sel s
  | .addItem p sel val => Sys2Proof.Machine.execAddItem p sel val s
  | .startTicket p sel => Sys2Proof.Machine.execStartTicket p sel s
  | .renew p sel val => Sys2Proof.Machine.execRenew p sel val s
  | .inspect p sel val => Sys2Proof.Machine.execInspect p sel val s
  | .closeTicket p sel => Sys2Proof.Machine.execCloseTicket p sel s
  | .readTicket p sel val => Sys2Proof.Machine.execReadTicket p sel val s
  | .readHistory p sel => Sys2Proof.Machine.execReadHistory p sel s
  | .rewindHistory p => Sys2Proof.Machine.execRewindHistory p s
  | .clearHistory p => Sys2Proof.Machine.execClearHistory p s
  | .readLog p sel => Sys2Proof.Machine.execReadLog p sel s
  | .rewindLog p => Sys2Proof.Machine.execRewindLog p s
  | .clearLog p => Sys2Proof.Machine.execClearLog p s
  | .softReset p => Sys2Proof.Machine.execSoftReset p s
  | .clearAll p => Sys2Proof.Machine.execClearAll p s
  | .frameBegin p => Sys2Proof.Machine.execFrameBegin p s
  | .frameEnd p edges frame levels => Sys2Proof.Machine.execFrameEnd p edges frame levels s
  | .unknownCode p code => Sys2Proof.Machine.execUnknownCode p code s
  | .badFrame p edges => Sys2Proof.Machine.execBadFrame p edges s
  | .voidFrameDiscard p edges => Sys2Proof.Machine.execVoidFrameDiscard p s edges
  | .levelFilterAccept line level => Sys2Proof.Machine.execLevelFilterAccept line level s
  | .contactScan levels => Sys2Proof.Machine.execContactScan levels s
  | .blinkHalfCycle => Sys2Proof.Machine.execBlinkHalfCycle s
  | .epochClose => Sys2Proof.Machine.execEpochClose s
  | .motionReport zone => Sys2Proof.Machine.execMotionReport zone s
  | .windowEnd => Sys2Proof.Machine.execWindowEnd s
  | .grantTimerExpiry ticket => Sys2Proof.Machine.execGrantTimerExpiry ticket s
  | .supplyLoss cause => Sys2Proof.Machine.execSupplyLoss cause s
  | .keepSupplyLoss below => Sys2Proof.Machine.execKeepSupplyLoss s below
  | .retainedExit vmainAbove rstnHigh => Sys2Proof.Machine.execRetainedExit vmainAbove rstnHigh s
  | .retainedDisturbance element d => Sys2Proof.Machine.execRetainedDisturbance element d s

end Sys2Proof.Machine
end

