-- ==== Sys2Proof/Machine/Time.lean ====
section
/-! DEFINITION. What the device does while no command waits (log 4): it takes what a close left outstanding; else the
1 ms base advances by half a millisecond, the contact-scan timer, the blink clock, the epoch millisecond count and the
grant timers with it, and what expires is taken (R11, R18, R24, R118). -/

namespace Sys2Proof.Machine

/-- The contact-scan timer advances by half a millisecond; at its expiry the lines are scanned (R11). -/
def State.tickScan (s : State) : State :=
  match s.scan.timer with
  | none => s
  | some k => if k ≤ 1 then s.scanContacts s.scan.contacts else { s with scan.timer := some (k - 1) }

/-- The grant timer of each AWAITING ticket counts down by a millisecond (R118). -/
def State.countGrants (s : State) : State :=
  { s with tickets.table := s.tickets.table.map fun t =>
      if t.state = .awaiting then { t with timer := t.timer - 1 } else t }

/-- The numbers of the AWAITING tickets whose timer stands at 0. -/
def State.expired (s : State) : List Nat :=
  (s.tickets.table.filter fun t => t.state = .awaiting && t.timer = 0).map Ticket.number

/-- A millisecond of the grant timers, with their expiries in table order (R118). -/
def State.tickGrants (s : State) : State :=
  if s.running then s.countGrants.expired.foldl State.expireNumber s.countGrants else s

/-- A millisecond of the blink clock (R18). -/
def State.tickBlink (s : State) : State :=
  if s.running then { s with blink := (s.blink + 1) % 1000 } else s

/-- A millisecond of the Epoch Pacer: when the count would pass D the epoch closes (R24). -/
def State.tickEpoch (s : State) : State :=
  if s.running then
    if s.pacer.divider ≤ s.pacer.ms then s.closeEpoch else { s with pacer.ms := s.pacer.ms + 1 }
  else s

/-- Half a millisecond of the 1 ms base: the contact-scan timer, and at the end of a whole millisecond the blink clock,
the epoch and the grant timers, which the millisecond passed for only if the device ran in it. A wake by this very scan,
or by an expiry taken last, so begins its epoch at 0 (R26, R163). That the four are taken in this order at one moment is
the model's choice (log 4); so is the phase of the base at a wake or a divider write (log 23). -/
def State.tick (s : State) : State :=
  let s1 := ({ s with half := !s.half }).tickScan
  if s.half && s.running then s1.tickBlink.tickEpoch.tickGrants else s1

/-- A motion report or a window end that a close raised is outstanding (R29, R81). -/
def State.outstanding (s : State) : Bool := (s.tickets.reports.any fun b => b) || s.window.remaining = 0

/-- The device with no command waiting: nothing in RETAINED (R166), else outstanding work, else the passing of time. -/
def State.idle (s : State) : State :=
  if s.ctl.op = .retained then s
  else if s.outstanding then s.settle
  else s.tick

end Sys2Proof.Machine
end

