-- ==== Sys2Proof/Safety.lean ====
section
/-! DEFINITION. The terms claims are made in. What the device is when a port's command is taken and what its answer
leaves; what counts as a safe step; and the properties that the spec says stand at every moment, each a predicate on
the state named by its rules. -/

namespace Sys2Proof.Machine

/-! ## Taking a command -/

/-- A frame of 48 bits on the port is taken at its release: the device is not RETAINED (R166), the port's void flag is
clear (R174, R178), and a device that is still parked sees chip select asserted by this frame (R163). -/
abbrev State.Taking (s : State) (p : Port) : Prop :=
  s.ctl.op ≠ .retained ∧ (s.ports.get p).void = false ∧ (s.ctl.op = .parked → (s.ports.get p).select = false)

/-- The device as a command finds it on the port: its frame has begun, which wakes a parked device, and has ended after
48 bits (R163, R173, R174). -/
def State.received (s : State) (p : Port) : State := (s.beginFrame p).endFrame p 48

/-- The state with the answer to a command staged on a port (R175). -/
def State.answering (s : State) (p : Port) (code : Byte) (result : Result) (data : Nat) : State :=
  { s with ports := s.ports.set p { s.ports.get p with staged := ⟨result, code, BitVec.ofNat 32 data⟩ } }

/-- The state with a set of event notices added at every port. -/
def State.noticed (s : State) (set : NoticeSet) : State :=
  { s with notices := s.notices.map fun b => { b with events := b.events ||| set } }

/-- A device that wakes if it is parked, and is left as it is otherwise (R163): every vote RUN, ACTIVE, a fresh epoch,
the contact-scan timer on its ACTIVE period, WOKE, notice 11, at every port; the freeze and the blink clock as they stand. -/
def State.awake (s : State) : State :=
  if s.ctl.op = .parked then
    { s with
      ctl := { s.ctl with votes := .all .run, op := .active }
      pacer.ms := 0
      scan.timer := some 1
      notices := s.notices.map fun b => { b with events := b.events ||| 0x0800 } }
  else s

/-- A device in ACTIVE or QUIET that has been brought to the requested state of its new votes and flags, a requested
PARKED held back to QUIET: the contact-scan timer restarts if the operating state changes (R11, R159, R160). -/
def State.broughtRunning (s : State) (c : Control) : State :=
  let arrived := if c.requested = .parked then .quiet else c.requested
  { s with
    ctl := { c with op := arrived }
    scan.timer :=
      if arrived = s.ctl.op then s.scan.timer
      else if arrived = .active then some 1
      else some (2 * Config.scanTable.getD s.scan.quietIndex 0) }

/-- The six bytes of a port's answer in a frame that begins now (R175, R176): ATTN, FROZEN and the result code; the code
answered; the data. -/
def State.answerBits (s : State) (p : Port) : FrameWord :=
  frameWord (BitVec.ofBool (s.attention p) ++ BitVec.ofBool s.pins.frozen ++
    BitVec.ofNat 6 (s.ports.get p).staged.result.code) (s.ports.get p).staged.code (s.ports.get p).staged.data

/-- A line record written: while frozen, a pin whose line becomes an input is released (R3, R19). -/
def State.lineWritten (s : State) (i : Fin 24) (l : Line) : State :=
  { s with
    lines := s.lines.set i l
    pins.held := if s.pins.frozen = true ∧ l.isInput = true then s.pins.held.set i none else s.pins.held }

/-- The device with its due list as the records and a horizon give it: the generation number rises and PLAN is raised
where the sequence differs from the one that stood (R98, R99). -/
def State.replanned (s : State) (elements : Table Element 64) (horizon : Nat) : State :=
  let due := dueListOf elements horizon
  { s with
    elements := elements
    plan := { s.plan with
      horizon := horizon
      due := due
      generation := if due = s.plan.due then s.plan.generation else (s.plan.generation + 1) % 65536 }
    notices := if due = s.plan.due then s.notices else (s.noticed 0x0004).notices }

/-- The device with record `n` replaced by one whose state may be another: WORN is raised on entry to WORN, and the due
list is brought into order (R58, R98). -/
def State.restated (s : State) (n : Fin 64) (e : Element) : State :=
  (if e.state = .worn ∧ (s.elements.get n).state ≠ .worn then s.noticed 0x0001 else s).replanned
    (s.elements.set n e) s.plan.horizon

/-- A service record appended: with the next log sequence number and the window sequence number as it stands (R134,
R135), dropping the oldest of a full ring (R138); a cursor past newest comes to rest on it, and one on the dropped
record moves to field 0 of the oldest record left (R139, R140). -/
def State.logged (s : State) (e : Fin 64) (ticket : Nat) (o : LogOutcome) (wear renewals : Nat) : State :=
  let seq := (s.log.seq + 1) % 4294967296
  let kept := if s.log.ring.length < 128 then s.log.ring else s.log.ring.tail
  let ring := kept ++ [⟨seq, e, ticket, o, wear, renewals, s.window.seq⟩]
  { s with
    log := ⟨ring, seq⟩
    ports := s.ports.map fun i => { i with
      log := match i.log with
        | .past => .on seq 0
        | .on q f =>
          if 128 ≤ s.log.ring.length ∧ s.log.ring.head?.map ServiceRecord.seq = some q then
            .on ((ring.head?.map ServiceRecord.seq).getD seq) 0
          else .on q f } }

/-- A step that neither faults nor refuses. -/
abbrev Goes (o : Host.Outcome State Fault Refusal) : Prop := ∃ t, o = .next t

/-- Commands and events taken one after another, each where the one before it left the device. -/
def Runs : List Instr → State → State → Prop
  | [], s, t => t = s
  | c :: rest, s, t => ∃ u, exec c s = .next u ∧ Runs rest u t

/-- The device with the PARK marker set, which a park entry does before its close (R33, R161, step 1). -/
def State.parkMarked (s : State) : State :=
  { s with history := { s.history with markers := { s.history.markers with park := true } } }

/-- The device that has closed its epoch for a park, as the rest of the entry leaves it: PARKED, the contact-scan timer
on the park period or stopped, each pin held as it stands (R161, steps 3 and 4); a chip select found asserted wakes it
at once (R163). -/
def State.parkedFrozen (v : State) : State :=
  let t : State := { v with
    ctl := { v.ctl with op := .parked }
    scan := { v.scan with
      timer :=
        if v.lines.any (fun l => l.function = .tach && l.sensing = .contact && l.wake) then
          some (2 * Config.scanTable.getD v.scan.parkIndex 0)
        else none }
    pins := { v.pins with
      frozen := true
      held := .ofFn fun i => v.pinDrive i } }
  if v.ports.a.select || v.ports.b.select || v.ports.m.select then t.awake else t

/-- What holds of the device once `s` has entered PARKED (R161): the marker, the close of the partial epoch and the
window end it may raise (log 27), then the rest of the entry. -/
abbrev State.Parking (s : State) (P : State → Prop) : Prop :=
  ∃ u, exec .epochClose s.parkMarked = .next u ∧ ∃ v, exec .windowEnd u = .next v ∧ P v.parkedFrozen

/-! ## What stands at every moment -/

/-- The bounds of an element record (R56, R89). -/
abbrev Element.Bounded (e : Element) : Prop :=
  e.wear ≤ 4294967295 ∧ e.accumulator ≤ 16777215 ∧ e.carry ≤ 16383 ∧ e.residue < e.ppr ∧ e.renewCount ≤ 65535 ∧
    e.slipCount ≤ 65535 ∧ e.rate ≤ 268435440 ∧ e.projection ≤ 65535

/-- Every element record keeps its bounds (R56, R89). -/
abbrev State.ElementsBounded (s : State) : Prop := ∀ i, (s.elements.get i).Bounded

/-- An in-use element that is not SUSPECT is DUE exactly when its wear is at least 4096 times its limit, its T then 0,
and is WORN only at or above its threshold (R57). A limit of 0 is no setting: it stands only in a record disturbed and
then renewed, which R124 makes FRESH. -/
abbrev Element.Derived (e : Element) : Prop :=
  e.accounted = true → 1 ≤ e.limit →
    ((e.state = .due ↔ e.limit * 4096 ≤ e.wear) ∧ (e.state = .due → e.projection = 0) ∧
      (e.state = .worn → e.limit * 4096 ≤ e.wear + e.margin * 4096))

/-- Every element's state is the one R57 gives, but for a record disturbed in RETAINED, which its check word betrays
(R84). -/
abbrev State.StatesDerived (s : State) : Prop :=
  ∀ i, (s.elements.get i).Derived ∨
    (s.ctl.op = .retained ∧ (s.elements.get i).inUse = true ∧ (s.elements.get i).sum i ≠ (s.elements.get i).check)

/-- Outside RETAINED the check word of every element in use and not SUSPECT agrees with its record (R83, R84). -/
abbrev State.ChecksAgree (s : State) : Prop :=
  s.ctl.op ≠ .retained → ∀ i, (s.elements.get i).accounted = true → (s.elements.get i).check = (s.elements.get i).sum i

/-- Outside RETAINED the due list is the one the records and the horizon give (R96 to R98); its generation number has
16 bits. -/
abbrev State.DueInOrder (s : State) : Prop :=
  (s.ctl.op ≠ .retained → s.plan.due = dueListOf s.elements s.plan.horizon) ∧ s.plan.generation ≤ 65535

/-- A ticket's own fields (R106). -/
abbrev Ticket.Sound (t : Ticket) : Prop :=
  (1 ≤ t.number ∧ t.number ≤ 255) ∧ (1 ≤ t.items.length ∧ t.items.length ≤ 6) ∧ t.timer ≤ 65535000 ∧
    (t.state ≠ .awaiting → t.timer = 0) ∧ (t.accessSeen = true → t.state = .working) ∧
    (t.state = .working → t.everWorked = true)

/-- A ticket against the element records, its zone's hold record and the timers (R106, R107, R118). -/
abbrev State.TicketAgrees (s : State) (t : Ticket) : Prop :=
  (∀ i ∈ t.items, (s.elements.get i.element).zone = t.zone ∧ (s.elements.get i.element).inUse = true) ∧
    (t.state = .working → (s.tickets.holds.get t.zone).state = .held) ∧
    (t.state = .awaiting → (s.tickets.holds.get t.zone).state = .requested) ∧
    (t.state = .awaiting → s.ctl.op ≠ .retained → 1 ≤ t.timer)

/-- How many tickets of a zone are AWAITING or WORKING (R108). -/
def State.activeIn (s : State) (z : Fin 8) : Nat := s.tickets.table.countP fun t => t.zone = z && t.active

/-- A zone's hold record against its tickets and its owner (R108). -/
abbrev State.HoldAgrees (s : State) (z : Fin 8) : Prop :=
  (s.tickets.holds.get z).demand = s.activeIn z ∧
    ((s.tickets.holds.get z).state = .free ↔ s.activeIn z = 0) ∧
    ((s.tickets.holds.get z).state = .free →
      (s.tickets.holds.get z).grantA = false ∧ (s.tickets.holds.get z).grantB = false) ∧
    ((s.tickets.holds.get z).grantA = true → s.owner z = .a ∨ s.owner z = .both) ∧
    ((s.tickets.holds.get z).grantB = true → s.owner z = .b ∨ s.owner z = .both) ∧
    ((s.tickets.holds.get z).state = .held →
      (s.owner z = .a ∨ s.owner z = .both → (s.tickets.holds.get z).grantA = true) ∧
      (s.owner z = .b ∨ s.owner z = .both → (s.tickets.holds.get z).grantB = true)) ∧
    ((s.tickets.holds.get z).state = .requested →
      ((s.owner z = .a ∨ s.owner z = .both) ∧ (s.tickets.holds.get z).grantA = false) ∨
      ((s.owner z = .b ∨ s.owner z = .both) ∧ (s.tickets.holds.get z).grantB = false))

/-- The ticket table, the hold records, the element records and the owners agree (R106 to R108, R131). -/
abbrev State.TicketsAgree (s : State) : Prop :=
  s.tickets.table.length ≤ 8 ∧ (s.tickets.table.map Ticket.number).Nodup ∧
    (s.tickets.table.flatMap fun t => t.items.map Item.element).Nodup ∧
    (∀ t ∈ s.tickets.table, t.Sound ∧ s.TicketAgrees t) ∧ (∀ z, s.HoldAgrees z) ∧
    (1 ≤ s.tickets.next ∧ s.tickets.next ≤ 255) ∧ (1 ≤ s.tickets.grantTime ∧ s.tickets.grantTime ≤ 65535) ∧
    (s.ctl.op = .parked → ∀ z, (s.tickets.holds.get z).state = .free)

/-- A load report: lapsed with remaining hold 0, or standing, its port an owner, with 1 to 255 (R44). -/
abbrev LoadReport.Agrees (r : LoadReport) (owner : Prop) : Prop :=
  r.cls ≤ 7 ∧ (r.lapsed = true → r.hold = 0) ∧ (r.lapsed = false → owner ∧ 1 ≤ r.hold ∧ r.hold ≤ 255)

/-- The settings of every zone are in range and its load reports agree with its owner (R40, R44). -/
abbrev State.LoadsAgree (s : State) : Prop :=
  ∀ z, (s.book.zones.get z).fallback ≤ 7 ∧
    (1 ≤ (s.book.zones.get z).holdTime ∧ (s.book.zones.get z).holdTime ≤ 255) ∧
    (s.book.zones.get z).reportA.Agrees (s.owner z = .a ∨ s.owner z = .both) ∧
    (s.book.zones.get z).reportB.Agrees (s.owner z = .b ∨ s.owner z = .both)

/-- Each number of the list is the one that follows the number before it (R34, R138). -/
def Consecutive : List Nat → Prop
  | a :: b :: rest => b = nextSequence a ∧ Consecutive (b :: rest)
  | _ => True

/-- A ring of at most `capacity` records whose numbers run on one by one up to the latest number given (R34, R138). -/
def RingRuns (capacity latest : Nat) (numbers : List Nat) : Prop :=
  numbers.length ≤ capacity ∧ Consecutive numbers ∧ (∀ q ∈ numbers.getLast?, q = latest) ∧ latest ≤ 4294967295

/-- A cursor stands past newest, or on a field of a record in the ring (R35, R139). -/
def Cursor.InRing (lastField : Nat) (numbers : List Nat) : Cursor → Prop
  | .past => True
  | .on q f => q ∈ numbers ∧ f ≤ lastField

/-- The Window Counter and the history ring with its cursors (R28, R30, R34, R35). -/
def State.HistoryRuns (s : State) : Prop :=
  RingRuns 48 s.window.seq (s.history.ring.map WindowRecord.seq) ∧
    (1 ≤ s.window.length ∧ s.window.length ≤ 65535) ∧ (1 ≤ s.window.loaded ∧ s.window.loaded ≤ 65535) ∧
    s.window.remaining ≤ 65535 ∧
    (∀ p, (s.ports.get p).history.InRing 10 (s.history.ring.map WindowRecord.seq)) ∧
    (∀ r ∈ s.history.ring, (1 ≤ r.loaded ∧ r.loaded ≤ 65535) ∧ ∀ z, r.sums.get z ≤ 16777215) ∧
    ∀ z, s.history.sums.get z ≤ 16777215

/-- The log ring with its cursors (R135, R138, R139). -/
def State.LogRuns (s : State) : Prop :=
  RingRuns 128 s.log.seq (s.log.ring.map ServiceRecord.seq) ∧
    ∀ p, (s.ports.get p).log.InRing 6 (s.log.ring.map ServiceRecord.seq)

/-- Operating state, freeze, frames, supply and clocks (R18, R23, R26, R155, R163, R165, R173, R178): a void frame is
one under way, its answer 0; a parked device is frozen with no frame under way and no epoch begun; a device in RETAINED
is unfrozen and holds no void flag; outside RETAINED the marker is valid and VMAIN and RSTN stand high; with VMAIN and
VKEEP both low the marker is lost. -/
abbrev State.ControlAgrees (s : State) : Prop :=
  (∀ p, (s.ports.get p).void = true → (s.ports.get p).select = true ∧ (s.ports.get p).shiftOut = 0) ∧
    (∀ p, (s.ports.get p).bitCount ≤ 255) ∧
    (s.ctl.op = .parked → s.pins.frozen = true ∧ (∀ p, (s.ports.get p).select = false) ∧ s.pacer.ms = 0) ∧
    (s.ctl.op = .retained → s.pins.frozen = false ∧ s.pacer.ms = 0 ∧ s.scan.timer = none ∧
      ∀ p, (s.ports.get p).void = false) ∧
    (s.ctl.op ≠ .retained → s.ctl.valid = true ∧ s.ctl.vmainLow = false ∧ s.ctl.rstnLow = false) ∧
    (s.ctl.vmainLow = true → s.ctl.vkeepLow = true → s.ctl.valid = false) ∧
    s.pacer.ms ≤ s.pacer.divider ∧ s.pacer.divider ≤ 65535 ∧ s.blink < 1000

/-- A line's pulse counter: 0 to 65535, and 0 unless the line is TACH (R8). -/
abbrev Line.Counted (l : Line) : Prop := l.count ≤ 65535 ∧ (l.function ≠ .tach → l.count = 0)

/-- Every pulse counter, and every table and setting of R182 that no other property covers, is in its range. -/
abbrev State.SettingsInRange (s : State) : Prop :=
  (∀ i, (s.lines.get i).Counted) ∧ (∀ i, s.book.weights.get i ≤ 255) ∧
    (∀ i, (s.bands.get i).bound ≤ 65535 ∧ (s.bands.get i).factor ≤ 255) ∧ s.scan.quietIndex ≤ 15 ∧
    s.scan.parkIndex ≤ 15 ∧ s.plan.shift ≤ 7 ∧ s.plan.horizon ≤ 65535

end Sys2Proof.Machine
end

