-- ==== Sys2Proof/WellFormed.lean ====
section
/-! DEFINITION. What makes a command one that its row of the table describes. The operand types carry most bounds;
what is left is named here, one check for each row that has one. -/

namespace Sys2Proof

/-- UNKNOWN_CODE is the row of a code that names no command (R179); BAD_FRAME is the row of a chip-select period of
other than 48 bits (R177); GRANT_TIMER_EXPIRY names a ticket, whose number is 1 to 255 (R106). Every other command is
well formed whatever its operands: a selector or a value out of range is answered BAD-ARG (R181). -/
def WellFormed : Instr → Bool
  | .nop _ => true
  | .readStatus _ _ => true
  | .readNotices _ _ => true
  | .setNoticeMask _ _ => true
  | .page _ _ => true
  | .unfreeze _ => true
  | .vote _ _ => true
  | .shiftMark _ => true
  | .load _ _ _ => true
  | .grant _ _ => true
  | .revoke _ _ => true
  | .readLines _ _ => true
  | .setLineFunction _ _ _ => true
  | .setLineDirection _ _ _ => true
  | .setLineLevelField _ _ _ => true
  | .setLinePullUp _ _ _ => true
  | .setLineFloat _ _ _ => true
  | .setLineSensingMode _ _ _ => true
  | .setLinePolarity _ _ _ => true
  | .setLineWakeEnable _ _ _ => true
  | .setLineZone _ _ _ => true
  | .setLineOwnerSide _ _ _ => true
  | .readLineSetting _ _ _ => true
  | .setLineLevel _ _ _ => true
  | .setEpochDivider _ _ => true
  | .setWindowLength _ _ => true
  | .setHistoryMode _ _ => true
  | .setZoneOwner _ _ _ => true
  | .setFallbackClass _ _ _ => true
  | .setHoldTime _ _ _ => true
  | .setLoadWeight _ _ _ => true
  | .setSpeedBandBound _ _ _ => true
  | .setSpeedBandFactor _ _ _ => true
  | .setSmoothingShift _ _ => true
  | .setHorizon _ _ => true
  | .setGrantTime _ _ => true
  | .setFittedFlag _ _ _ => true
  | .setQuietScanIndex _ _ => true
  | .setParkScanIndex _ _ => true
  | .readTable _ _ _ => true
  | .readElement _ _ _ => true
  | .setElementZone _ _ _ => true
  | .setElementTachLine _ _ _ => true
  | .setElementPpr _ _ _ => true
  | .setElementRatio _ _ _ => true
  | .setElementReferenceLine _ _ _ => true
  | .setElementExpectedRatio _ _ _ => true
  | .setElementSlipTolerance _ _ _ => true
  | .setElementSlipWeight _ _ _ => true
  | .setElementLimit _ _ _ => true
  | .setElementMargin _ _ _ => true
  | .enableElement _ _ => true
  | .disableElement _ _ => true
  | .presetWear _ _ _ => true
  | .acceptElement _ _ => true
  | .readPlan _ _ _ => true
  | .readZone _ _ => true
  | .openTicket _ _ => true
  | .addItem _ _ _ => true
  | .startTicket _ _ => true
  | .renew _ _ _ => true
  | .inspect _ _ _ => true
  | .closeTicket _ _ => true
  | .readTicket _ _ _ => true
  | .readHistory _ _ => true
  | .rewindHistory _ => true
  | .clearHistory _ => true
  | .readLog _ _ => true
  | .rewindLog _ => true
  | .clearLog _ => true
  | .softReset _ => true
  | .clearAll _ => true
  | .frameBegin _ => true
  | .frameEnd _ _ _ _ => true
  | .unknownCode _ code => (sendersOf code).isNone
  | .badFrame _ edges => edges != 48
  | .voidFrameDiscard _ _ => true
  | .levelFilterAccept _ _ => true
  | .contactScan _ => true
  | .blinkHalfCycle => true
  | .epochClose => true
  | .motionReport _ => true
  | .windowEnd => true
  | .grantTimerExpiry ticket => ticket != 0
  | .supplyLoss _ => true
  | .keepSupplyLoss _ => true
  | .retainedExit _ _ => true
  | .retainedDisturbance _ _ => true

end Sys2Proof
end

