-- ==== Sys2Proof/Certificates/Slice0/Obligations.lean ====
section
/-! DEFINITION. The statements about the model, for the provers. A row of the table is its whole frame (log 2).
`s.Taking p` says that a frame on port `p` is taken; `s.received p` is the device as that frame's command finds it (the
statement `FrameBeginsAndIsTaken` spells it out); `s.answering p code result data` is a device with that answer staged
and nothing else changed. A conclusion `exec c s = .next t` with `t` written as an update of another state says at once
what the command does and that it leaves everything else. -/

open Sys2Proof Sys2Proof.Machine

/-! ## The step -/

/-- A step takes the command at the front of the queue. Block form: the model's choice (log 1). -/
def Obligations.StepTakesFront : Prop :=
  ∀ (c : Instr) (rest : List Instr) (s : State),
    step { s with pending := c :: rest } = exec c { s with pending := rest }

/-- No step faults and none is refused: whatever a port sends is answered by a result code (R176). A command's effect
is on everything but the queue. The queue, and that a step always goes on, are the model's form of the block (log 1).
-/
def Obligations.CommandsAlwaysGo : Prop :=
  (∀ s : State, Goes (step s)) ∧
  (∀ (c : Instr) (s t : State), exec c s = .next t → t.pending = s.pending)

/-- With no command waiting: nothing in RETAINED (R166). While the device runs and a close left motion reports or a
window end outstanding, the step takes them, reports first (R29, R81; log 6). Else half a millisecond of the 1 ms base
passes. At its expiry the contact-scan timer makes a scan (R11), in PARKED too. At the end of a whole millisecond that
the device ran in, the blink clock moves on (R18), the epoch counts it and closes once D + 1 ms have passed (R23, R24),
and every AWAITING ticket's grant timer counts down, each that reaches 0 expiring, in table order (R118). Each
happening is its row of the table. That time passes on an empty queue, by half milliseconds and in this order at one
moment, is the model's choice (log 4); what the scan reads is log 8. -/
def Obligations.IdleIsTime : Prop :=
  ∀ s : State, s.pending = [] →
    (s.ctl.op = .retained → step s = .next s) ∧
    (s.running = true → s.outstanding = true →
      ∃ t, Runs (((List.finRange 8).filter fun z => s.tickets.reports.get z).map Instr.motionReport ++
          if s.window.remaining = 0 then [.windowEnd] else []) s t ∧
        step s = .next t) ∧
    (s.ctl.op ≠ .retained → s.outstanding = false → (∀ t ∈ s.tickets.table, t.number ≤ 255) →
      let scans := s.scan.timer = some 0 ∨ s.scan.timer = some 1
      let base : State := { s with half := !s.half }
      let ticked : State := { base with scan := { s.scan with timer := s.scan.timer.map fun k => k - 1 } }
      ∃ b, Runs (if scans then [.contactScan s.scan.contacts] else []) (if scans then base else ticked) b ∧
        (s.half = false ∨ s.ctl.op = .parked → step s = .next b) ∧
        (s.half = true → s.ctl.op ≠ .parked →
          ∃ d, Runs (if s.pacer.divider ≤ s.pacer.ms then [.epochClose] else [])
              { b with
                blink := (s.blink + 1) % 1000
                pacer := if s.pacer.divider ≤ s.pacer.ms then s.pacer else ⟨s.pacer.divider, s.pacer.ms + 1⟩ } d ∧
            let waited : State := { d with tickets := { d.tickets with
              table := d.tickets.table.map fun t : Ticket =>
                if t.state = TicketState.awaiting then { t with timer := t.timer - 1 } else t } }
            ∃ t, Runs ((waited.tickets.table.filter fun t : Ticket => t.state = TicketState.awaiting ∧ t.timer = 0).map
                fun t => .grantTimerExpiry (BitVec.ofNat 8 t.number)) waited t ∧
              step s = .next t))

/-! ## Reset and invariants -/

/-- The values after a COLD start, which reset leaves: of R2, R11, R22, R23, R28, R33, R39, R40, R51 to R53, R74, R86,
R107, R108, R110, R135, R142, R154, R155, R168, R178. The last clause, that no command waits at reset, is the model's
choice (log 15, log 26); so is that reset is the state after a COLD start (log 15). -/
def Obligations.ResetValues : Prop :=
  (∀ i, State.reset.lines.get i =
    ⟨.plain, .input, true, true, false, .driven, true, false, 0, .a, none, none, 0⟩) ∧
  (State.reset.scan.quietIndex = 3 ∧ State.reset.scan.parkIndex = 11 ∧ State.reset.scan.timer = some 1 ∧
    State.reset.blink = 0) ∧
  State.reset.pacer = ⟨999, 0⟩ ∧ State.reset.window = ⟨3600, 3600, 3600, 0⟩ ∧
  (State.reset.history.ring = [] ∧ State.reset.history.mode = .stop ∧
    State.reset.history.markers = ⟨false, false, false, false, false⟩ ∧ ∀ z, State.reset.history.sums.get z = 0) ∧
  (∀ z, State.reset.book.zones.get z = ⟨.nobody, 7, 30, ⟨0, 0, true⟩, ⟨0, 0, true⟩⟩) ∧
  State.reset.book.weights.data = [4, 8, 12, 16, 20, 24, 32, 40] ∧
  State.reset.bands.data.map Band.bound = [64, 256, 512, 1024, 1536, 2048, 3072, 65535] ∧
  State.reset.bands.data.map Band.factor = [12, 14, 16, 17, 18, 20, 22, 24] ∧
  (∀ n, State.reset.elements.get n =
    ⟨0, 0, 1, 64, none, 0, 1, 16, 1, 0, 0, 0, 0, 0, 0, 0, .idle, false, n.val + 338, 0, false, 65535⟩) ∧
  State.reset.plan = ⟨3, 168, [], 0⟩ ∧
  (State.reset.tickets.table = [] ∧ State.reset.tickets.next = 1 ∧ State.reset.tickets.grantTime = 600 ∧
    ∀ z, State.reset.tickets.holds.get z = ⟨.free, false, false, 0⟩) ∧
  State.reset.log = ⟨[], 0⟩ ∧
  (∀ p, State.reset.pendingSet p = 0x2000 ∧ (State.reset.notices.get p).mask = 0xFFFF ∧
    (State.reset.ports.get p).staged = ⟨.start, 0, 0⟩ ∧ (State.reset.ports.get p).history = .past ∧
    (State.reset.ports.get p).log = .past) ∧
  (State.reset.ctl.op = .active ∧ State.reset.ctl.startKind = .cold ∧ State.reset.ctl.valid = true ∧
    State.reset.ctl.fittedA = true ∧ State.reset.ctl.fittedB = true ∧ ∀ p, State.reset.ctl.votes.get p = .run) ∧
  State.reset.pins.frozen = false ∧ State.reset.pending = []

/-- Reset has every property that the steps keep. -/
def Obligations.ResetMeetsInvariants : Prop :=
  State.reset.ElementsBounded ∧ State.reset.StatesDerived ∧ State.reset.ChecksAgree ∧ State.reset.DueInOrder ∧
    State.reset.TicketsAgree ∧ State.reset.LoadsAgree ∧ State.reset.HistoryRuns ∧ State.reset.LogRuns ∧
    State.reset.ControlAgrees ∧ State.reset.SettingsInRange

/-- Every step keeps the bounds of the element records (R56, R89), of the pulse counters (R8) and of the tables and
settings that no other property covers (R11, R51, R74, R86). -/
def Obligations.StepKeepsRanges : Prop :=
  ∀ s t : State, s.ElementsBounded → s.SettingsInRange → step s = .next t → t.ElementsBounded ∧ t.SettingsInRange

/-- Every step keeps an element DUE exactly at its limit, with T = 0 (R57), and keeps the check word of an element in
use and not SUSPECT in agreement with its record (R83, R84). -/
def Obligations.StepKeepsRecordsAgree : Prop :=
  (∀ s t : State, s.StatesDerived → step s = .next t → t.StatesDerived) ∧
  (∀ s t : State, s.ChecksAgree → step s = .next t → t.ChecksAgree)

/-- Every step leaves the due list with the members of R96 in the order of R97 (R98). -/
def Obligations.StepKeepsDueInOrder : Prop :=
  ∀ s t : State, s.DueInOrder → step s = .next t → t.DueInOrder

/-- Every step keeps tickets, demands, hold records, grants and owners in agreement (R106 to R108), from a state whose
ports and operating state agree: a parked device with a frame under way on a port, which no run reaches, would take a
START-TICKET without a wake. That steps keep this premise too is the statement `StepKeepsControl`. -/
def Obligations.StepKeepsTicketsAgree : Prop :=
  ∀ s t : State, s.TicketsAgree → s.ControlAgrees → step s = .next t → t.TicketsAgree

/-- Every step keeps each load report standing with its port an owner, or lapsed with no hold left (R44). -/
def Obligations.StepKeepsLoadsAgree : Prop :=
  ∀ s t : State, s.LoadsAgree → step s = .next t → t.LoadsAgree

/-- Every step keeps both rings within their capacity, numbered one by one, with each cursor in its ring or past newest
(R34, R35, R138, R139). -/
def Obligations.StepKeepsRings : Prop :=
  ∀ s t : State, s.HistoryRuns → s.LogRuns → step s = .next t → t.HistoryRuns ∧ t.LogRuns

/-- Every step keeps a parked device frozen, with its epoch stopped and no frame under way, and a void frame one under
way whose answer is 0 (R19, R26, R163, R178); and the marker valid outside RETAINED, lost with VMAIN and VKEEP both low
(R155, R165; what the supply monitor keeps is log 14). -/
def Obligations.StepKeepsControl : Prop :=
  ∀ s t : State, s.ControlAgrees → step s = .next t → t.ControlAgrees

/-- From one command to the next the wear of an element in use does not fall, but to 0, and then its renew count
changes, or stands at 65535 already, or the element is left IDLE, as a RENEW and a COLD start leave it (R56). Of a
command taken in RETAINED, where a disturbance may come, it says nothing. -/
def Obligations.WearOnlyGrows : Prop :=
  ∀ (c : Instr) (s t : State) (n : Fin 64), s.ElementsBounded → exec c s = .next t →
    (s.elements.get n).inUse = true → (s.elements.get n).wear ≤ (t.elements.get n).wear ∨
      ((t.elements.get n).wear = 0 ∧ ((t.elements.get n).renewCount ≠ (s.elements.get n).renewCount ∨
        (s.elements.get n).renewCount = 65535 ∨ (t.elements.get n).state = .idle)) ∨
      s.ctl.op = .retained

/-! ## The frame protocol -/

/-- A frame of 48 bits released on a port does what the row of the command it carries says: no bit of a frame is
dropped (R174, R181 to R184). -/
def Obligations.FrameRunsCommand : Prop :=
  ∀ (c : Instr) (p : Port) (w : FrameWord) (levels : Pins) (s : State), frameOf c = some (p, w) →
    WellFormed c = true → (s.ports.get p).select = true → (∀ q l, c = .readLines q l → l = levels) →
    exec (.frameEnd p 48 w levels) s = exec c s

/-- The codes of R180 with the ports permitted to send them. A frame whose code names no command is answered UNKNOWN,
and a command of a port that may not send it NOT-PERMITTED; nothing else is done (R179). -/
def Obligations.FirstChecks : Prop :=
  (∀ code : Byte,
    (sendersOf code = some .all ↔ code ∈ ([0x00, 0x01, 0x02, 0x03, 0x04, 0x05, 0x08, 0x10, 0x12, 0x19, 0x20, 0x28,
      0x29, 0x36, 0x38, 0x39, 0x3C, 0x3D] : List Byte)) ∧
    (sendersOf code = some .line ↔ code ∈ ([0x09, 0x0A, 0x0B, 0x0C] : List Byte)) ∧
    (sendersOf code = some .maintenance ↔ code ∈ ([0x11, 0x13, 0x18, 0x21, 0x22, 0x23, 0x24, 0x25, 0x30, 0x31, 0x32,
      0x33, 0x34, 0x35, 0x3A, 0x3E, 0x3F, 0x7F] : List Byte)) ∧
    (∀ p, Senders.all.permit p = true) ∧ (∀ p, Senders.line.permit p = true ↔ p ≠ .m) ∧
    (∀ p, Senders.maintenance.permit p = true ↔ p = .m)) ∧
  (∀ (p : Port) (s : State), s.Taking p →
    (∀ code, WellFormed (.unknownCode p code) = true →
      exec (.unknownCode p code) s = .next ((s.received p).answering p code .unknown 0)) ∧
    (∀ frame levels, (s.ports.get p).select = true → sendersOf (codeOf frame) = none →
      exec (.frameEnd p 48 frame levels) s = .next ((s.received p).answering p (codeOf frame) .unknown 0)) ∧
    (∀ frame levels who, (s.ports.get p).select = true → sendersOf (codeOf frame) = some who → who.permit p = false →
      exec (.frameEnd p 48 frame levels) s = .next ((s.received p).answering p (codeOf frame) .notPermitted 0)) ∧
    (∀ c w who, frameOf c = some (p, w) → sendersOf (codeOf w) = some who → who.permit p = false →
      exec c s = .next ((s.received p).answering p (codeOf w) .notPermitted 0)))

/-- In RETAINED no frame is received, no epoch runs, no timer counts and nothing is sensed: an event changes nothing
but the chip selects themselves (R166; that an event which does not occur there leaves the state is the model's choice,
log 7). A frame under way at a start is discarded at its release: no command, no notice, no answer (R178); its bits
since the start are counted as any frame's (R173), and the count stays after the release (log 22). -/
def Obligations.NothingReceived : Prop :=
  (∀ (p : Port) (s : State), s.ctl.op = .retained →
    (∀ c w, frameOf c = some (p, w) →
      exec c s = .next { s with ports := s.ports.set p { s.ports.get p with select := false } }) ∧
    (∀ edges frame levels, exec (.frameEnd p edges frame levels) s =
      .next { s with ports := s.ports.set p { s.ports.get p with select := false } }) ∧
    (∀ edges, exec (.badFrame p edges) s =
      .next { s with ports := s.ports.set p { s.ports.get p with select := false } }) ∧
    exec (.frameBegin p) s = .next { s with ports := s.ports.set p { s.ports.get p with select := true } } ∧
    (∀ line level, exec (.levelFilterAccept line level) s = .next s) ∧
    (∀ levels, s.scan.timer = none → exec (.contactScan levels) s = .next s) ∧
    exec .blinkHalfCycle s = .next s ∧ exec .epochClose s = .next s ∧ exec .windowEnd s = .next s ∧
    (∀ zone, exec (.motionReport zone) s = .next s) ∧ (∀ ticket, exec (.grantTimerExpiry ticket) s = .next s)) ∧
  (∀ (p : Port) (s : State), s.ctl.op ≠ .retained → (s.ports.get p).void = true → (s.ports.get p).select = true →
    let t (edges : Nat) : State := { s with ports := s.ports.set p { s.ports.get p with
      select := false
      void := false
      bitCount := min 255 edges } }
    (∀ edges, exec (.voidFrameDiscard p edges) s = .next (t edges) ∧ exec (.badFrame p edges) s = .next (t edges)) ∧
    (∀ edges frame levels, exec (.frameEnd p edges frame levels) s = .next (t edges)) ∧
    (∀ c w, frameOf c = some (p, w) → exec c s = .next (t 48)))

/-- A chip-select period of other than 48 bits raises FRAME at its port and stages the BAD-FRAME answer with the bit
count, 255 at most; no command is taken (R173, R177). That the row is the whole period, or the end of one under way, is
the model's choice (log 2), and the count stays after the release (log 22). -/
def Obligations.FrameError : Prop :=
  ∀ (p : Port) (edges : Nat) (s : State), s.Taking p → edges ≠ 48 →
    let r : State := s.received p
    let t : State := { r with
      notices := r.notices.set p { r.notices.get p with events := (r.notices.get p).events ||| 0x8000 }
      ports := r.ports.set p { r.ports.get p with
        bitCount := min 255 edges
        staged := ⟨.badFrame, 0xFF, BitVec.ofNat 32 (min 255 edges)⟩ } }
    exec (.badFrame p edges) s = .next t ∧
    ((s.ports.get p).select = true → ∀ frame levels, exec (.frameEnd p edges frame levels) s = .next t)

/-- The assertion of chip select wakes a parked device, sets the bit count to 0 and brings out the staged answer with
ATTN and FROZEN formed then (R149, R163, R173), the result coded as R176 lists; one already asserted begins nothing
(log 7). While chip select is asserted the data-out pin shows that answer from its first bit, one bit on at each
falling edge, then 0; released, and in RETAINED, it is undriven (R166, R173; that a port's edges come with its release
is log 3). A wake leaves the phase of the 1 ms base (log 23). A frame of 48 bits is then released to its command, the
device as `received` says, its bit count kept (log 22); NOP changes no more (R174, R180). -/
def Obligations.FrameBeginsAndIsTaken : Prop :=
  (∀ (p : Port) (s : State), s.ctl.op ≠ .retained →
    ((s.ports.get p).select = true → exec (.frameBegin p) s = .next s) ∧
    ((s.ports.get p).select = false → exec (.frameBegin p) s =
      .next { s.awake with ports := s.ports.set p { s.ports.get p with
        select := true
        bitCount := 0
        shiftOut := s.awake.answerBits p } })) ∧
  (∀ (p : Port) (s : State), s.Taking p →
    s.received p = { s.awake with ports := s.ports.set p { s.ports.get p with
      select := false
      bitCount := 48
      shiftOut := if (s.ports.get p).select then (s.ports.get p).shiftOut else s.awake.answerBits p } } ∧
    exec (.nop p) s = .next ((s.received p).answering p 0x00 .done 0) ∧
    (∀ frame levels, (s.ports.get p).select = true → codeOf frame = 0x00 →
      exec (.frameEnd p 48 frame levels) s = .next ((s.received p).answering p 0x00 .done 0))) ∧
  (∀ (p : Port) (s : State) (falls : Nat),
    let i := s.ports.get p
    (s.ctl.op = .retained ∨ i.select = false → s.dataOut p falls = none) ∧
    (s.ctl.op ≠ .retained → i.select = true → falls < 48 → s.dataOut p falls = some (i.shiftOut.getMsbD falls)) ∧
    (s.ctl.op ≠ .retained → i.select = true → 48 ≤ falls → s.dataOut p falls = some false)) ∧
  (∀ x n, (x, n) ∈ [(Result.done, 0), (.start, 1), (.badFrame, 2), (.unknown, 3), (.notPermitted, 4), (.badArg,
    5), (.notOwner, 6), (.busy, 7), (.full, 8), (.notRequested, 9), (.notGranted, 10), (.notWorking, 11),
    (.notItem, 12), (.already, 13), (.noAccess, 14), (.incomplete, 15), (.notInUse, 16), (.zoneMix, 17),
    (.empty, 18), (.notPlanned, 19), (.noTicket, 20)] → x.code = n)

/-! ## Status, notices, freeze and votes -/

/-- READ-STATUS returns the three parts of R172 as R186 lays them out and codes them, and changes nothing; a selector
above 2 is refused BAD-ARG. -/
def Obligations.ReadStatusParts : Prop :=
  (∀ (p : Port) (s : State), s.Taking p →
    let r : State := s.received p
    exec (.readStatus p 0) s = .next (r.answering p 0x01 .done
      (r.ctl.op.code + 2 ^ 8 * r.ctl.requested.code + 2 ^ 16 * r.ctl.startKind.code +
        2 ^ 24 * (if r.pins.frozen then 1 else 0))) ∧
    exec (.readStatus p 1) s = .next (r.answering p 0x01 .done
      (r.tickets.table.length + 2 ^ 8 * r.plan.due.length +
        2 ^ 16 * ((List.finRange 64).countP fun n => (r.elements.get n).state = .suspect))) ∧
    exec (.readStatus p 2) s = .next (r.answering p 0x01 .done
      (r.ctl.votes.a.code + 2 ^ 2 * r.ctl.votes.b.code + 2 ^ 4 * r.ctl.votes.m.code +
        2 ^ 8 * (if r.ctl.fittedA then 1 else 0) + 2 ^ 9 * (if r.ctl.fittedB then 1 else 0))) ∧
    (∀ sel, 2 < sel.toNat → exec (.readStatus p sel) s = .next (r.answering p 0x01 .badArg 0))) ∧
  (∀ x n, (x, n) ∈ [(OpState.active, 0), (.quiet, 1), (.parked, 2), (.retained, 3)] → x.code = n) ∧
  (∀ x n, (x, n) ∈ [(Vote.run, 0), (.pause, 1), (.park, 2)] → x.code = n) ∧
  (∀ x n, (x, n) ∈ [(StartKind.cold, 0), (.warm, 1), (.soft, 2)] → x.code = n)

/-- READ-NOTICES with selector 0 returns the caller's pending set and removes its event notices, all but DUE, HOLD-
REQ, LAPSE and SUSPECT, at that port alone (R150); selectors 1 and 2 return the set and the mask and change nothing
(R151). SET-NOTICE-MASK stores the caller's own mask and answers it; a value above 65535 is refused (R146). PAGE raises
PAGE at the port its selector names and at no other; a selector that names none is refused (R152). -/
def Obligations.NoticeCommands : Prop :=
  (∀ (p : Port) (s : State), s.Taking p →
    let r : State := s.received p
    exec (.readNotices p 0) s = .next ({ r with
      notices := r.notices.set p { r.notices.get p with events := (r.notices.get p).events &&& 0x1122 } }.answering p
        0x02 .done (r.pendingSet p).toNat) ∧
    exec (.readNotices p 1) s = .next (r.answering p 0x02 .done (r.pendingSet p).toNat) ∧
    exec (.readNotices p 2) s = .next (r.answering p 0x02 .done (r.notices.get p).mask.toNat) ∧
    (∀ sel, 2 < sel.toNat → exec (.readNotices p sel) s = .next (r.answering p 0x02 .badArg 0))) ∧
  (∀ (p : Port) (s : State), s.Taking p →
    let r : State := s.received p
    (∀ val, val.toNat ≤ 65535 → exec (.setNoticeMask p val) s = .next ({ r with
      notices := r.notices.set p { r.notices.get p with mask := BitVec.ofNat 16 val.toNat } }.answering p 0x03 .done
        val.toNat)) ∧
    (∀ val, 65535 < val.toNat → exec (.setNoticeMask p val) s = .next (r.answering p 0x03 .badArg 0)) ∧
    (∀ sel target, (sel.toNat, target) ∈ [(0, Port.a), (1, Port.b), (2, Port.m)] →
      exec (.page p sel) s = .next ({ r with
        notices := r.notices.set target { r.notices.get target with
          events := (r.notices.get target).events ||| 0x4000 } }.answering p 0x04 .done 0)) ∧
    (∀ sel, 2 < sel.toNat → exec (.page p sel) s = .next (r.answering p 0x04 .badArg 0)))

/-- Each condition notice stands at a port exactly while its condition holds there (R145), and outside RETAINED a
port's attention line is asserted exactly when its pending set and its mask have a member in common (R148). -/
def Obligations.ConditionsAndAttention : Prop :=
  ∀ s : State,
    (∀ p, (s.conditions p).getLsbD 1 = true ↔ ∃ n, (s.elements.get n).state = .due) ∧
    (∀ side, (s.conditions (portOf side)).getLsbD 5 = true ↔ ∃ z, (s.tickets.holds.get z).state = .requested ∧
      (s.owner z).has side = true ∧ (s.tickets.holds.get z).grant side = false) ∧
    (∀ side, (s.conditions (portOf side)).getLsbD 8 = true ↔ ∃ z, (s.owner z).has side = true ∧
      ((s.book.zones.get z).report side).lapsed = true) ∧
    ((s.conditions .m).getLsbD 12 = true ↔ ∃ n, (s.elements.get n).state = .suspect) ∧
    (∀ p n, (s.conditions p).getLsbD n = true → n ∈ (if p = .m then [1, 12] else [1, 5, 8])) ∧
    (∀ p, s.ctl.op ≠ .retained → (s.attention p = true ↔ ∃ n, (s.notices.get p).mask.getLsbD n = true ∧
      ((s.notices.get p).events.getLsbD n = true ∨ (s.conditions p).getLsbD n = true))) ∧
    (∀ p, s.ctl.op = .retained → s.attention p = false)

/-- UNFREEZE clears the frozen flag if it is set, and every pin then takes the drive that its function and settings
give; a clear flag is answered DONE and nothing changes (R20). What a pin is driven to while unfrozen outside RETAINED
(R5): PLAIN outputs to their level, HOLD lines to their active level while their side owns a zone REQUESTED or HELD
(R17), LAMP lines while their beacon is lit (R18), no input and no pin with float ON; while frozen each pin as held
(R19); in RETAINED none (R21). The weak pull-up of an unfrozen pin is per its setting on an input and off on any other
(R5), and off in RETAINED (R21). -/
def Obligations.UnfreezeAndPinDrive : Prop :=
  (∀ (p : Port) (s : State), s.Taking p →
    let r : State := s.received p
    let t : State := { r with pins := { r.pins with
      frozen := false
      held := .ofFn fun _ => none } }
    (r.pins.frozen = true → exec (.unfreeze p) s = .next (t.answering p 0x05 .done 0) ∧
      ∀ i, (t.answering p 0x05 .done 0).pinDrive i = t.settingsDrive (t.lines.get i)) ∧
    (r.pins.frozen = false → exec (.unfreeze p) s = .next (r.answering p 0x05 .done 0))) ∧
  (∀ (s : State) (i : Fin 24),
    let l := s.lines.get i
    let asserted := (s.tickets.holds.get l.zone).state ≠ .free ∧ (s.owner l.zone).has l.side = true
    let working := ∃ t ∈ s.tickets.table, t.zone = l.zone ∧ t.state = .working
    let due := ∃ n, (s.elements.get n).zone = l.zone ∧ (s.elements.get n).state = .due
    (s.ctl.op = .retained → s.pinDrive i = none) ∧
    (s.ctl.op ≠ .retained → s.pins.frozen = true → s.pinDrive i = s.pins.held.get i) ∧
    (s.ctl.op ≠ .retained → s.pins.frozen = false →
      (l.function = .tach ∨ l.function = .gate ∨ (l.function = .plain ∧ l.direction = .input) ∨ l.float = true →
        s.pinDrive i = none) ∧
      (l.float = false → l.function = .plain → l.direction = .output → s.pinDrive i = some l.level) ∧
      (l.float = false → l.function = .hold → asserted → s.pinDrive i = some l.polarity) ∧
      (l.float = false → l.function = .hold → ¬asserted → s.pinDrive i = some !l.polarity) ∧
      (l.float = false → l.function = .lamp → (working ∨ (due ∧ s.blink < 500)) → s.pinDrive i = some l.polarity) ∧
      (l.float = false → l.function = .lamp → ¬(working ∨ (due ∧ s.blink < 500)) →
        s.pinDrive i = some !l.polarity)) ∧
    (s.ctl.op = .retained → s.pinPullUp i = false) ∧
    (s.ctl.op ≠ .retained → s.pins.frozen = false →
      (l.function = .tach ∨ l.function = .gate ∨ (l.function = .plain ∧ l.direction = .input) →
        s.pinPullUp i = l.pullUp) ∧
      (l.function = .hold ∨ l.function = .lamp ∨ (l.function = .plain ∧ l.direction = .output) →
        s.pinPullUp i = false)))

/-- The requested state: ACTIVE with a RUN among the counted votes, PARKED if every counted vote is PARK, else QUIET;
the counted votes are those of the fitted line ports, or the Maintenance Port's if neither is fitted (R158). -/
def Obligations.RequestedState : Prop :=
  ∀ c : Control,
    let counted (v : Vote) : Prop := (c.fittedA = true ∧ c.votes.a = v) ∨ (c.fittedB = true ∧ c.votes.b = v) ∨
      (c.fittedA = false ∧ c.fittedB = false ∧ c.votes.m = v)
    (c.requested = .active ↔ counted .run) ∧ (c.requested = .parked ↔ ¬counted .run ∧ ¬counted .pause) ∧
    (c.requested = .quiet ↔ ¬counted .run ∧ counted .pause)

/-- A VOTE, or a write of a fitted flag, that does not arrive at PARKED: the setting is stored, the operating state
becomes the requested one, a requested PARKED held back to QUIET while a ticket is AWAITING or WORKING or a hold is not
FREE, and a change between ACTIVE and QUIET restarts the contact-scan timer (R11, R156, R157, R159, R160). Other values
are refused BAD-ARG. -/
def Obligations.VoteBringsState : Prop :=
  (∀ s : State, s.heldBack = true ↔ (∃ t ∈ s.tickets.table, t.state = .awaiting ∨ t.state = .working) ∨
    ∃ z, (s.tickets.holds.get z).state ≠ .free) ∧
  (∀ (p : Port) (s : State), s.Taking p →
    let r : State := s.received p
    (∀ val v, (val.toNat, v) ∈ [(0, Vote.run), (1, Vote.pause), (2, Vote.park)] →
      let c : Control := { r.ctl with votes := r.ctl.votes.set p v }
      (c.requested = .parked → r.heldBack = true) →
        exec (.vote p val) s = .next ((r.broughtRunning c).answering p 0x08 .done (r.broughtRunning c).ctl.op.code)) ∧
    (∀ val : Word, 2 < val.toNat → exec (.vote p val) s = .next (r.answering p 0x08 .badArg 0)) ∧
    (p = .m → ∀ val b, (val.toNat, b) ∈ [(0, false), (1, true)] →
      let cA : Control := { r.ctl with fittedA := b }
      let cB : Control := { r.ctl with fittedB := b }
      ((cA.requested = .parked → r.heldBack = true) →
        exec (.setFittedFlag .m .a val) s = .next ((r.broughtRunning cA).answering .m 0x18 .done 0)) ∧
      ((cB.requested = .parked → r.heldBack = true) →
        exec (.setFittedFlag .m .b val) s = .next ((r.broughtRunning cB).answering .m 0x18 .done 0))))

/-- A VOTE, or a write of a fitted flag, that arrives at PARKED (R156, R157, R161): the PARK marker, then the close of
the partial epoch, with the window end it may raise (taken inside the entry, log 27); then PARKED with the epoch
stopped and the scan timer on the park period or stopped; then the freeze, each pin held as it stands; all as `Parking`
spells it. A chip select found asserted wakes the device at once (R163), the phase of the 1 ms base left (log 23). A
VOTE answers PARKED, and, after such a wake, ACTIVE: that is the model's choice, which the spec leaves open (log 28).
Nothing stands outstanding before it (log 6). -/
def Obligations.ParkEntry : Prop :=
  ∀ (p : Port) (s : State), s.Taking p →
    let r : State := s.received p
    let parks (c : Control) : Prop := c.requested = .parked ∧ r.heldBack = false ∧ r.outstanding = false
    let c : Control := { r.ctl with votes := r.ctl.votes.set p .park }
    (parks c → State.Parking { r with ctl := c } fun t =>
      exec (.vote p 2) s = .next (t.answering p 0x08 .done (
        if r.ports.a.select || r.ports.b.select || r.ports.m.select then 0 else 2))) ∧
    (p = .m → ∀ val b, (val.toNat, b) ∈ [(0, false), (1, true)] →
      let cA : Control := { r.ctl with fittedA := b }
      let cB : Control := { r.ctl with fittedB := b }
      (parks cA → State.Parking { r with ctl := cA } fun t =>
        exec (.setFittedFlag .m .a val) s = .next (t.answering .m 0x18 .done 0)) ∧
      (parks cB → State.Parking { r with ctl := cB } fun t =>
        exec (.setFittedFlag .m .b val) s = .next (t.answering .m 0x18 .done 0)))

/-! ## Settings and tables -/

/-- SET-TABLE of E, 0 clamped to 1 (R28), of the history mode (R39), of k, clamped to 7 (R86, R91), of the grant time,
0 clamped to 1 (R110), and of the scan indices, the timer restarting while QUIET is in force (R11). SET-TABLE of a
zone's fallback class and hold time, 0 clamped to 1, which leaves the standing reports (R41), of a load weight (R51)
and of a speed band's bound and factor (R74). -/
def Obligations.SettingsStored : Prop :=
  (∀ (val : Word) (s : State), s.Taking .m →
    let r : State := s.received .m
    let v := val.toNat
    (v ≤ 65535 → exec (.setWindowLength .m val) s =
      .next ({ r with window := { r.window with length := max 1 v } }.answering .m 0x18 .done 0)) ∧
    (v = 0 → exec (.setHistoryMode .m val) s =
      .next ({ r with history := { r.history with mode := .stop } }.answering .m 0x18 .done 0)) ∧
    (v = 1 → exec (.setHistoryMode .m val) s =
      .next ({ r with history := { r.history with mode := .cycle } }.answering .m 0x18 .done 0)) ∧
    exec (.setSmoothingShift .m val) s =
      .next ({ r with plan := { r.plan with shift := min 7 v } }.answering .m 0x18 .done 0) ∧
    (v ≤ 65535 → exec (.setGrantTime .m val) s =
      .next ({ r with tickets := { r.tickets with grantTime := max 1 v } }.answering .m 0x18 .done 0)) ∧
    (v ≤ 15 → exec (.setQuietScanIndex .m val) s = .next ({ r with scan := { r.scan with
      quietIndex := v
      timer := if r.ctl.op = OpState.quiet then some (2 * Config.scanTable.getD v 0) else r.scan.timer } }.answering
        .m 0x18 .done 0)) ∧
    (v ≤ 15 → exec (.setParkScanIndex .m val) s =
      .next ({ r with scan := { r.scan with parkIndex := v } }.answering .m 0x18 .done 0))) ∧
  (∀ (i : Fin 8) (fv : FieldValue) (s : State), s.Taking .m →
    let r : State := s.received .m
    let idx := BitVec.ofNat 8 i.val
    let v := fv.toNat
    (v ≤ 7 → exec (.setFallbackClass .m idx fv) s = .next ({ r with book := { r.book with
      zones := r.book.zones.set i { r.book.zones.get i with fallback := v } } }.answering .m 0x18 .done 0)) ∧
    (v ≤ 255 → exec (.setHoldTime .m idx fv) s = .next ({ r with book := { r.book with
      zones := r.book.zones.set i { r.book.zones.get i with holdTime := max 1 v } } }.answering .m 0x18 .done 0)) ∧
    (v ≤ 255 → exec (.setLoadWeight .m idx fv) s = .next ({ r with book := { r.book with
      weights := r.book.weights.set i v } }.answering .m 0x18 .done 0)) ∧
    (v ≤ 65535 → exec (.setSpeedBandBound .m idx fv) s = .next ({ r with
      bands := r.bands.set i { r.bands.get i with bound := v } }.answering .m 0x18 .done 0)) ∧
    (v ≤ 255 → exec (.setSpeedBandFactor .m idx fv) s = .next ({ r with
      bands := r.bands.set i { r.bands.get i with factor := v } }.answering .m 0x18 .done 0)))

/-- SET-TABLE of a value, an index or an item out of range, and SET-LINE, SET-LINE-LEVEL and SET-ELEMENT of a record, a
field or a value out of range, are refused BAD-ARG and change nothing (R3, R6, R61, R182 to R184, and the rule of each
item). -/
def Obligations.WriteRefusals : Prop :=
  (∀ (val : Word) (idx : Byte) (fv : FieldValue) (s : State), s.Taking .m →
    let r : State := s.received .m
    let refused (c : Instr) : Prop := exec c s = .next (r.answering .m 0x18 .badArg 0)
    (65535 < val.toNat → refused (.setEpochDivider .m val) ∧ refused (.setWindowLength .m val) ∧
      refused (.setHorizon .m val) ∧ refused (.setGrantTime .m val)) ∧
    (1 < val.toNat → refused (.setHistoryMode .m val) ∧ ∀ side, refused (.setFittedFlag .m side val)) ∧
    (15 < val.toNat → refused (.setQuietScanIndex .m val) ∧ refused (.setParkScanIndex .m val)) ∧
    (7 < idx.toNat ∨ 3 < fv.toNat → refused (.setZoneOwner .m idx fv)) ∧
    (7 < idx.toNat ∨ 7 < fv.toNat → refused (.setFallbackClass .m idx fv)) ∧
    (7 < idx.toNat ∨ 255 < fv.toNat → refused (.setHoldTime .m idx fv) ∧ refused (.setLoadWeight .m idx fv) ∧
      refused (.setSpeedBandFactor .m idx fv)) ∧
    (7 < idx.toNat ∨ 65535 < fv.toNat → refused (.setSpeedBandBound .m idx fv)) ∧
    (∀ frame levels, (s.ports.get .m).select = true → codeOf frame = 0x18 →
      ((selectorOf frame).toNat ∈ [1, 3, 4, 9, 10] ∨ 20 < (selectorOf frame).toNat) →
      refused (.frameEnd .m 48 frame levels))) ∧
  (∀ (sel : Byte) (fv : FieldValue) (val : Word) (s : State), s.Taking .m →
    let r : State := s.received .m
    let v := fv.toNat
    let line (c : Instr) : Prop := exec c s = .next (r.answering .m 0x11 .badArg 0)
    let element (c : Instr) : Prop := exec c s = .next (r.answering .m 0x21 .badArg 0)
    (23 < sel.toNat ∨ 1 < v → line (.setLineDirection .m sel fv) ∧ line (.setLineLevelField .m sel fv) ∧
      line (.setLinePullUp .m sel fv) ∧ line (.setLineFloat .m sel fv) ∧ line (.setLineSensingMode .m sel fv) ∧
      line (.setLinePolarity .m sel fv) ∧ line (.setLineWakeEnable .m sel fv) ∧ line (.setLineOwnerSide .m sel fv)) ∧
    (23 < sel.toNat ∨ 4 < v → line (.setLineFunction .m sel fv)) ∧
    (23 < sel.toNat ∨ 7 < v → line (.setLineZone .m sel fv)) ∧
    (23 < sel.toNat ∨ 1 < val.toNat → exec (.setLineLevel .m sel val) s = .next (r.answering .m 0x13 .badArg 0)) ∧
    (63 < sel.toNat ∨ 7 < v → element (.setElementZone .m sel fv)) ∧
    (63 < sel.toNat ∨ 23 < v → element (.setElementTachLine .m sel fv)) ∧
    (63 < sel.toNat ∨ v = 0 ∨ 255 < v → element (.setElementPpr .m sel fv)) ∧
    (63 < sel.toNat ∨ v = 0 ∨ 4095 < v → element (.setElementRatio .m sel fv) ∧
      element (.setElementExpectedRatio .m sel fv)) ∧
    (63 < sel.toNat ∨ (23 < v ∧ v ≠ 255) → element (.setElementReferenceLine .m sel fv)) ∧
    (63 < sel.toNat ∨ 255 < v → element (.setElementSlipTolerance .m sel fv) ∧
      element (.setElementSlipWeight .m sel fv)) ∧
    (63 < sel.toNat ∨ v = 0 ∨ 1048575 < v → element (.setElementLimit .m sel fv)) ∧
    (63 < sel.toNat ∨ 1048575 < v → element (.setElementMargin .m sel fv)) ∧
    (∀ frame levels, (s.ports.get .m).select = true → 9 < (indexOf (valueOf frame)).toNat →
      (codeOf frame = 0x11 → line (.frameEnd .m 48 frame levels)) ∧
      (codeOf frame = 0x21 → element (.frameEnd .m 48 frame levels))))

/-- SET-TABLE of D sets the DIVIDER marker, closes the current epoch as an expiry does, and starts an epoch of the new
length, whatever value D held (R25). Nothing stands outstanding before it (log 6); the 1 ms base keeps its phase (log
23). -/
def Obligations.DividerClosesEpoch : Prop :=
  ∀ (val : Word) (s : State), s.Taking .m → val.toNat ≤ 65535 →
    let r : State := s.received .m
    r.outstanding = false →
      ∃ u, exec .epochClose { r with history := { r.history with
          markers := { r.history.markers with divider := true } } } = .next u ∧ u.pacer.ms = 0 ∧
        exec (.setEpochDivider .m val) s =
          .next ({ u with pacer := { u.pacer with divider := val.toNat } }.answering .m 0x18 .done 0)

/-- SET-TABLE of H stores it and brings the due list into order at once, with no projection recomputed (R98, R99).
Where the due list is in order, its members are the elements in use and not SUSPECT that are WORN or DUE or have T
within H (R96), in ascending order of T and, for equal T, of element number, so each once (R97). -/
def Obligations.DueListInOrder : Prop :=
  (∀ (val : Word) (s : State), s.Taking .m → val.toNat ≤ 65535 →
    exec (.setHorizon .m val) s =
      .next (((s.received .m).replanned (s.received .m).elements val.toNat).answering .m 0x18 .done 0)) ∧
  (∀ s : State, s.DueInOrder → s.ctl.op ≠ .retained →
    (∀ n, n ∈ s.plan.due ↔ (s.elements.get n).state ≠ .idle ∧ (s.elements.get n).state ≠ .suspect ∧
      ((s.elements.get n).state = .worn ∨ (s.elements.get n).state = .due ∨
        (s.elements.get n).projection ≤ s.plan.horizon)) ∧
    s.plan.due.Pairwise fun i j => (s.elements.get i).projection < (s.elements.get j).projection ∨
      ((s.elements.get i).projection = (s.elements.get j).projection ∧ i < j))

/-! ## Load Book -/

/-- A zone owner is written only while the zone's hold record is FREE, and refused BUSY otherwise; the report of a port
that stops being an owner lapses, its class kept, and every other report stays (R42). That BUSY comes first where the
owner written is the one held is the model's reading (log 17). -/
def Obligations.OwnerWrite : Prop :=
  ∀ (z : Fin 8) (fv : FieldValue) (o : Owner) (s : State), s.Taking .m →
    (fv.toNat, o) ∈ [(0, Owner.nobody), (1, .a), (2, .b), (3, .both)] →
    let r : State := s.received .m
    let b := r.book.zones.get z
    let c := Instr.setZoneOwner .m (BitVec.ofNat 8 z.val) fv
    ((r.tickets.holds.get z).state ≠ .free → exec c s = .next (r.answering .m 0x18 .busy 0)) ∧
    ((r.tickets.holds.get z).state = .free → exec c s = .next ({ r with book := { r.book with
      zones := r.book.zones.set z { b with
        owner := o
        reportA := if b.owner.has .a = true ∧ o.has .a = false then ⟨b.reportA.cls, 0, true⟩ else b.reportA
        reportB := if b.owner.has .b = true ∧ o.has .b = false then ⟨b.reportB.cls, 0, true⟩ else b.reportB } }
      }.answering .m 0x18 .done 0))

/-- The effective class of a zone (R50): under one owner that port's class while its report stands; under BOTH the
greater of the standing reports' classes; the fallback class where none stands and under NONE. LOAD from an owner
replaces its report for the zone, the hold reloaded with the zone's hold time, and answers the effective class that
follows; from a port that is no owner it is refused NOT-OWNER, and out of range BAD-ARG (R45). -/
def Obligations.LoadReplacesReport : Prop :=
  (∀ b : ZoneBook,
    (b.owner = .a → b.effectiveClass = if b.reportA.lapsed then b.fallback else b.reportA.cls) ∧
    (b.owner = .b → b.effectiveClass = if b.reportB.lapsed then b.fallback else b.reportB.cls) ∧
    (b.owner = .both → b.reportA.lapsed = false → b.reportB.lapsed = false →
      b.reportA.cls ≤ b.effectiveClass ∧ b.reportB.cls ≤ b.effectiveClass ∧
        (b.effectiveClass = b.reportA.cls ∨ b.effectiveClass = b.reportB.cls)) ∧
    (b.owner = .both → b.reportA.lapsed = false → b.reportB.lapsed = true → b.effectiveClass = b.reportA.cls) ∧
    (b.owner = .both → b.reportA.lapsed = true → b.reportB.lapsed = false → b.effectiveClass = b.reportB.cls) ∧
    (b.owner = .both → b.reportA.lapsed = true → b.reportB.lapsed = true → b.effectiveClass = b.fallback) ∧
    (b.owner = .nobody → b.effectiveClass = b.fallback)) ∧
  (∀ b : ZoneBook, b.report .a = b.reportA ∧ b.report .b = b.reportB) ∧
  (∀ (side : Side) (val : Word) (s : State), s.Taking (portOf side) →
    let r : State := s.received (portOf side)
    (∀ sel : Byte, 7 < sel.toNat ∨ 7 < val.toNat →
      exec (.load (portOf side) sel val) s = .next (r.answering (portOf side) 0x0A .badArg 0)) ∧
    (∀ z : Fin 8, val.toNat ≤ 7 →
      let b := r.book.zones.get z
      let b' : ZoneBook := match side with
        | .a => { b with reportA := ⟨val.toNat, b.holdTime, false⟩ }
        | .b => { b with reportB := ⟨val.toNat, b.holdTime, false⟩ }
      let c := Instr.load (portOf side) (BitVec.ofNat 8 z.val) val
      (b.owner.has side = false → exec c s = .next (r.answering (portOf side) 0x0A .notOwner 0)) ∧
      (b.owner.has side = true → exec c s = .next ({ r with book := { r.book with
        zones := r.book.zones.set z b' } }.answering (portOf side) 0x0A .done b'.effectiveClass))))

/-! ## Tickets and zone holds -/

/-- GRANT: refused BAD-ARG, NOT-OWNER or NOT-REQUESTED in that order; a grant already recorded changes nothing, its
answer carrying the hold state (log 24); a grant that leaves another owner's missing is recorded; the grant that
completes them makes the zone HELD and its AWAITING tickets WORKING, access-seen set if its guard is open (R115, R116).
REVOKE: refused BAD-ARG, NOT-OWNER or NOT-GRANTED in that order; else the grant becomes no, and a HELD zone becomes
REQUESTED with its WORKING tickets AWAITING, their timers loaded afresh and access-seen cleared (R117). First: who owns
a zone (R40), when every owner has granted (R115), when a guard is open (R15), and the codes of the hold states (R185).
-/
def Obligations.GrantAndRevoke : Prop :=
  (∀ o : Owner, (o.has .a = true ↔ o = .a ∨ o = .both) ∧ (o.has .b = true ↔ o = .b ∨ o = .both) ∧
    ∀ h : HoldRecord, o.allGranted h = true ↔ (o = .a ∨ o = .both → h.grantA = true) ∧
      (o = .b ∨ o = .both → h.grantB = true)) ∧
  (∀ h : HoldRecord, h.grant .a = h.grantA ∧ h.grant .b = h.grantB) ∧
  (∀ (s : State) (z : Fin 8), s.guardOpen z = true ↔ ∃ k, (s.lines.get k).function = .gate ∧
    (s.lines.get k).zone = z ∧ (s.lines.get k).filtered = some (s.lines.get k).polarity) ∧
  (∀ x n, (x, n) ∈ [(HoldState.free, 0), (.requested, 1), (.held, 2)] → x.code = n) ∧
  (∀ (side : Side) (s : State), s.Taking (portOf side) →
    let p := portOf side
    let r : State := s.received p
    (∀ sel : Byte, 7 < sel.toNat → exec (.grant p sel) s = .next (r.answering p 0x0B .badArg 0)) ∧
    (∀ z : Fin 8,
      let h := r.tickets.holds.get z
      let h' : HoldRecord := match side with
        | .a => { h with grantA := true }
        | .b => { h with grantB := true }
      let c := Instr.grant p (BitVec.ofNat 8 z.val)
      ((r.owner z).has side = false → exec c s = .next (r.answering p 0x0B .notOwner 0)) ∧
      ((r.owner z).has side = true → h.state = .free → exec c s = .next (r.answering p 0x0B .notRequested 0)) ∧
      ((r.owner z).has side = true → h.state ≠ .free → h.grant side = true →
        exec c s = .next (r.answering p 0x0B .done h.state.code)) ∧
      ((r.owner z).has side = true → h.state ≠ .free → h.grant side = false → (r.owner z).allGranted h' = false →
        exec c s = .next ({ r with tickets := { r.tickets with holds := r.tickets.holds.set z h' } }.answering p 0x0B
          .done h.state.code)) ∧
      ((r.owner z).has side = true → h.state ≠ .free → h.grant side = false → (r.owner z).allGranted h' = true →
        exec c s = .next ({ r with tickets := { r.tickets with
          holds := r.tickets.holds.set z { h' with state := .held }
          table := r.tickets.table.map fun t : Ticket =>
            if t.zone = z ∧ t.state = TicketState.awaiting then
              { t with
                state := .working
                timer := 0
                everWorked := true
                accessSeen := r.guardOpen z }
            else t } }.answering p 0x0B .done 2)))) ∧
  (∀ (side : Side) (s : State), s.Taking (portOf side) →
    let p := portOf side
    let r : State := s.received p
    (∀ sel : Byte, 7 < sel.toNat → exec (.revoke p sel) s = .next (r.answering p 0x0C .badArg 0)) ∧
    (∀ z : Fin 8,
      let h := r.tickets.holds.get z
      let h' : HoldRecord := match side with
        | .a => { h with grantA := false }
        | .b => { h with grantB := false }
      let c := Instr.revoke p (BitVec.ofNat 8 z.val)
      ((r.owner z).has side = false → exec c s = .next (r.answering p 0x0C .notOwner 0)) ∧
      ((r.owner z).has side = true → h.grant side = false →
        exec c s = .next (r.answering p 0x0C .notGranted 0)) ∧
      ((r.owner z).has side = true → h.grant side = true → h.state ≠ .held →
        exec c s = .next ({ r with tickets := { r.tickets with holds := r.tickets.holds.set z h' } }.answering p 0x0C
          .done h.state.code)) ∧
      ((r.owner z).has side = true → h.grant side = true → h.state = .held →
        exec c s = .next ({ r with tickets := { r.tickets with
          holds := r.tickets.holds.set z { h' with state := .requested }
          table := r.tickets.table.map fun t : Ticket =>
            if t.zone = z ∧ t.state = TicketState.working then
              { t with
                state := .awaiting
                timer := 1000 * r.tickets.grantTime
                accessSeen := false }
            else t } }.answering p 0x0C .done 1))))

/-- A motion report taken: discarded by a FREE zone; in a zone HELD under a line owner MOTION at every port, the grants
cleared, the zone REQUESTED and its WORKING tickets AWAITING (R120); under NONE access-seen cleared alone; in a
REQUESTED zone the grants cleared (R121). With no report outstanding nothing happens (log 6, log 7). -/
def Obligations.MotionReportDropsHold : Prop :=
  ∀ (z : Fin 8) (s : State), s.running = true →
    let h := s.tickets.holds.get z
    let reports := s.tickets.reports.set z false
    let n := s.noticed 0x0010
    (s.tickets.reports.get z = false → exec (.motionReport z) s = .next s) ∧
    (s.tickets.reports.get z = true →
      (h.state = .free → exec (.motionReport z) s =
        .next { s with tickets := { s.tickets with reports := reports } }) ∧
      (h.state = .requested → exec (.motionReport z) s = .next { n with tickets := { s.tickets with
        reports := reports
        holds := s.tickets.holds.set z { h with
          grantA := false
          grantB := false } } }) ∧
      (h.state = .held → s.owner z = .nobody → exec (.motionReport z) s = .next { n with tickets := { s.tickets with
        reports := reports
        table := s.tickets.table.map fun t : Ticket =>
          if t.zone = z ∧ t.state = TicketState.working then { t with accessSeen := false } else t } }) ∧
      (h.state = .held → s.owner z ≠ .nobody → exec (.motionReport z) s = .next { n with tickets := { s.tickets with
        reports := reports
        holds := s.tickets.holds.set z { h with
          state := .requested
          grantA := false
          grantB := false }
        table := s.tickets.table.map fun t : Ticket =>
          if t.zone = z ∧ t.state = TicketState.working then
            { t with
              state := .awaiting
              timer := 1000 * s.tickets.grantTime
              accessSeen := false }
          else t } }))

/-- The expiry of an AWAITING ticket's grant timer stalls it, lowers its zone's demand and raises STALL at the
Maintenance Port and the zone's owners (R118); at demand 0 the zone is released, RELEASED raised at its owners (R119),
and the requested state brought (R160): where it does not arrive at PARKED, as while another zone still holds it back
(R159), as `broughtRunning` says; where the release ends a hold-back, to PARKED at that moment as `Parking` spells it
(R161), from which a chip select asserted then wakes the device (R163). Nothing stands outstanding before an entry to
PARKED (log 6). The row is taken whatever the timer has left (log 5). No such ticket: no expiry (log 7). -/
def Obligations.ExpiryStalls : Prop :=
  (∀ (number : Byte) (s : State), s.running = true →
    ((∀ t, s.ticket? number.toNat = some t → t.state ≠ .awaiting) →
      exec (.grantTimerExpiry number) s = .next s) ∧
    (∀ t, s.ticket? number.toNat = some t → t.state = .awaiting →
      let h := s.tickets.holds.get t.zone
      let table := s.tickets.table.map fun u : Ticket =>
        if u.number = number.toNat then
          { u with
            state := .stalled
            timer := 0
            accessSeen := false }
        else u
      let told (b : NoticeBox) (owns : Bool) (set : NoticeSet) : NoticeBox :=
        if owns then { b with events := b.events ||| set } else b
      let n : PerPort NoticeBox := ⟨told s.notices.a ((s.owner t.zone).has .a) 0x0080,
        told s.notices.b ((s.owner t.zone).has .b) 0x0080, told s.notices.m true 0x0080⟩
      let n' : PerPort NoticeBox := ⟨told n.a ((s.owner t.zone).has .a) 0x0040,
        told n.b ((s.owner t.zone).has .b) 0x0040, n.m⟩
      (1 < h.demand → exec (.grantTimerExpiry number) s = .next { s with
        notices := n
        tickets := { s.tickets with
          table := table
          holds := s.tickets.holds.set t.zone { h with demand := h.demand - 1 } } }) ∧
      let freed : State := { s with
        notices := n'
        tickets := { s.tickets with
          table := table
          holds := s.tickets.holds.set t.zone ⟨.free, false, false, 0⟩ } }
      (h.demand = 1 → s.ctl.requested = s.ctl.op → exec (.grantTimerExpiry number) s = .next freed) ∧
      (h.demand = 1 → (s.ctl.requested = .parked → freed.heldBack = true) →
        exec (.grantTimerExpiry number) s = .next (freed.broughtRunning s.ctl)) ∧
      (h.demand = 1 → s.ctl.requested = .parked → freed.heldBack = false → s.outstanding = false →
        freed.Parking fun u => exec (.grantTimerExpiry number) s = .next u))) ∧
  (∀ (number : Byte) (s : State), s.running = true → s.TicketsAgree → s.ctl.requested = .parked →
    ∀ t, s.ticket? number.toNat = some t → t.state = .awaiting → (s.tickets.holds.get t.zone).demand = 1 →
    (∀ z, z ≠ t.zone → (s.tickets.holds.get z).state = .free) →
      ∃ u, exec (.grantTimerExpiry number) s = .next u ∧ u.pins.frozen = true ∧ u.pacer.ms = 0 ∧
        u.ctl.op = if s.anySelected then .active else .parked)

/-- OPEN-TICKET: refused BAD-ARG, FULL, NOT-IN-USE or BUSY in that order (R111); else a PLANNED ticket of the element's
zone with the one item, its number the first one not in use from the next ticket number on, 1 following 255, and the
next ticket number the one after it (R107). ADD-ITEM: its seven refusals in their order, else a PENDING item at the end
of the ticket's list (R112). An element is refused BUSY while it is an item of any ticket. A number names a ticket of
the table that bears it, and none exactly where no ticket does. -/
def Obligations.OpenTicketAndAddItem : Prop :=
  (∀ (s : State) (e : Fin 64), s.onTicket e = true ↔ ∃ t ∈ s.tickets.table, ∃ i ∈ t.items, i.element = e) ∧
  (∀ (s : State) (k : Nat), (s.ticket? k = none ↔ ∀ t ∈ s.tickets.table, t.number ≠ k) ∧
    ∀ t, s.ticket? k = some t → t ∈ s.tickets.table ∧ t.number = k) ∧
  (∀ (s : State), s.Taking .m →
    let r : State := s.received .m
    let numbers := r.tickets.table.map Ticket.number
    (∀ sel : Byte, 63 < sel.toNat → exec (.openTicket .m sel) s = .next (r.answering .m 0x30 .badArg 0)) ∧
    (∀ e : Fin 64,
      let c := Instr.openTicket .m (BitVec.ofNat 8 e.val)
      (8 ≤ numbers.length → exec c s = .next (r.answering .m 0x30 .full 0)) ∧
      (numbers.length < 8 → (r.elements.get e).state = .idle →
        exec c s = .next (r.answering .m 0x30 .notInUse 0)) ∧
      (numbers.length < 8 → (r.elements.get e).state ≠ .idle → r.onTicket e = true →
        exec c s = .next (r.answering .m 0x30 .busy 0)) ∧
      (numbers.length < 8 → 1 ≤ r.tickets.next → r.tickets.next ≤ 255 → (r.elements.get e).state ≠ .idle →
        r.onTicket e = false →
        let succ (n : Nat) : Nat := if n = 255 then 1 else n + 1
        ∃ steps, steps ≤ 8 ∧ (∀ j, j < steps → succ^[j] r.tickets.next ∈ numbers) ∧
          let k := succ^[steps] r.tickets.next
          (1 ≤ k ∧ k ≤ 255) ∧ k ∉ numbers ∧ exec c s = .next ({ r with tickets := { r.tickets with
            table := r.tickets.table ++ [Ticket.mk k (r.elements.get e).zone .planned [⟨e, .pending⟩] 0 false false]
            next := succ k } }.answering .m 0x30 .done k)))) ∧
  (∀ (sel : Byte) (s : State), s.Taking .m →
    let r : State := s.received .m
    let refused (val : Word) (x : Result) : Prop := exec (.addItem .m sel val) s = .next (r.answering .m 0x31 x 0)
    (∀ val : Word, 63 < val.toNat → refused val .badArg) ∧
    (∀ e : Fin 64,
      let val := BitVec.ofNat 32 e.val
      (r.ticket? sel.toNat = none → refused val .noTicket) ∧
      (∀ t, r.ticket? sel.toNat = some t →
        (t.state ≠ .planned → refused val .notPlanned) ∧
        (t.state = .planned → (r.elements.get e).state = .idle → refused val .notInUse) ∧
        (t.state = .planned → (r.elements.get e).state ≠ .idle →
          (r.onTicket e = true → refused val .busy) ∧
          (r.onTicket e = false → (r.elements.get e).zone ≠ t.zone → refused val .zoneMix) ∧
          (r.onTicket e = false → (r.elements.get e).zone = t.zone → 6 ≤ t.items.length → refused val .full) ∧
          (r.onTicket e = false → (r.elements.get e).zone = t.zone → t.items.length < 6 →
            exec (.addItem .m sel val) s = .next ({ r with tickets := { r.tickets with
              table := r.tickets.table.map fun u : Ticket =>
                if u.number = sel.toNat then { u with items := u.items ++ [Item.mk e .pending] } else u } }.answering .m 0x31
                  .done (t.items.length + 1)))))))

/-- START-TICKET of a PLANNED or STALLED ticket raises its zone's demand by 1; the ticket becomes WORKING in a zone
that is HELD or has no owner, access-seen set if a GATE line of the zone is active (R15), else AWAITING with the grant
time loaded, the zone REQUESTED (R113, R116). The operating state is left as it stands (R160). The answer carries the
ticket's state (R185). A ticket already started is answered ALREADY, an unknown one NO-TICKET. -/
def Obligations.StartTicketAsks : Prop :=
  (∀ (s : State) (z : Fin 8), s.guardOpen z = true ↔ ∃ k, (s.lines.get k).function = .gate ∧
    (s.lines.get k).zone = z ∧ (s.lines.get k).filtered = some (s.lines.get k).polarity) ∧
  (∀ x n, (x, n) ∈ [(TicketState.planned, 0), (.awaiting, 1), (.working, 2), (.stalled, 3)] → x.code = n) ∧
  (∀ (sel : Byte) (s : State), s.Taking .m →
    let r : State := s.received .m
    (r.ticket? sel.toNat = none → exec (.startTicket .m sel) s = .next (r.answering .m 0x32 .noTicket 0)) ∧
    (∀ t, r.ticket? sel.toNat = some t →
      let h := r.tickets.holds.get t.zone
      let held := h.state = .held ∨ (h.state = .free ∧ r.owner t.zone = .nobody)
      (t.state = .awaiting ∨ t.state = .working →
        exec (.startTicket .m sel) s = .next (r.answering .m 0x32 .already 0)) ∧
      (t.state = .planned ∨ t.state = .stalled →
        (h.state = .free → r.ctl.requested = r.ctl.op ∨ (r.ctl.requested = .parked ∧ r.ctl.op = .quiet)) →
        (held → exec (.startTicket .m sel) s = .next ({ r with tickets := { r.tickets with
          holds := r.tickets.holds.set t.zone { h with
            state := .held
            demand := h.demand + 1 }
          table := r.tickets.table.map fun u : Ticket =>
            if u.number = sel.toNat then
              { u with
                state := .working
                timer := 0
                everWorked := true
                accessSeen := r.guardOpen t.zone }
            else u } }.answering .m 0x32 .done 2)) ∧
        (¬held → exec (.startTicket .m sel) s = .next ({ r with tickets := { r.tickets with
          holds := r.tickets.holds.set t.zone { h with
            state := .requested
            demand := h.demand + 1 }
          table := r.tickets.table.map fun u : Ticket =>
            if u.number = sel.toNat then
              { u with
                state := .awaiting
                timer := 1000 * r.tickets.grantTime
                accessSeen := false }
            else u } }.answering .m 0x32 .done 1)))))

/-- The checks of RENEW and INSPECT in their order (R123, R125): each refusal, and ALREADY, changes nothing. One that
passes them: RENEW logs the wear as it stood and the renew count after, sets wear, F, Q and A to 0 and the state to
FRESH, recomputes T and the check word, brings the due list into order, and sets the SERVICE marker (R124); INSPECT
logs the record as it stands and leaves it (R125). Each resolves its item. -/
def Obligations.RenewAndInspect : Prop :=
  (∀ (sel : Byte) (s : State), s.Taking .m →
    let r : State := s.received .m
    let both (val : Word) (x : Result) : Prop :=
      exec (.renew .m sel val) s = .next (r.answering .m 0x33 x 0) ∧
        exec (.inspect .m sel val) s = .next (r.answering .m 0x34 x 0)
    (∀ val : Word, 63 < val.toNat → both val .badArg) ∧
    (∀ e : Fin 64,
      let val := BitVec.ofNat 32 e.val
      (r.ticket? sel.toNat = none → both val .noTicket) ∧
      (∀ t, r.ticket? sel.toNat = some t →
        (t.state ≠ .working → both val .notWorking) ∧
        (t.state = .working → (∀ i ∈ t.items, i.element ≠ e) → both val .notItem) ∧
        (t.state = .working → ∀ i, t.items.find? (fun i => i.element = e) = some i →
          (i.outcome ≠ .pending → both val .already) ∧
          (i.outcome = .pending → (∃ k, (r.lines.get k).function = .gate ∧ (r.lines.get k).zone = t.zone) →
            t.accessSeen = false → both val .noAccess))))) ∧
  (∀ (sel : Byte) (e : Fin 64) (s : State), s.Taking .m →
    let r : State := s.received .m
    let val := BitVec.ofNat 32 e.val
    ∀ t, r.ticket? sel.toNat = some t → t.state = .working →
      ∀ i, t.items.find? (fun i => i.element = e) = some i → i.outcome = .pending →
      ((∀ k, (r.lines.get k).function = .gate → (r.lines.get k).zone ≠ t.zone) ∨ t.accessSeen = true) →
      let old := r.elements.get e
      let count := min 65535 (old.renewCount + 1)
      let fresh : Element := { old with
        wear := 0
        carry := 0
        residue := 0
        accumulator := 0
        renewCount := count
        state := .fresh
        projection := projectionOf 0 old.limit old.rate }
      let marked (x : ItemOutcome) : List Ticket := r.tickets.table.map fun u : Ticket =>
        if u.number = sel.toNat then
          { u with items := u.items.map fun j : Item => if j.element = e then { j with outcome := x } else j }
        else u
      let a := (r.logged e sel.toNat .renewed old.wear count).restated e { fresh with check := fresh.sum e }
      exec (.renew .m sel val) s = .next ({ a with
        tickets := { r.tickets with table := marked .renewed }
        history := { r.history with markers := { r.history.markers with service := true } } }.answering .m 0x33 .done
          count) ∧
      exec (.inspect .m sel val) s = .next ({ r.logged e sel.toNat .inspected old.wear old.renewCount with
        tickets := { r.tickets with table := marked .inspected } }.answering .m 0x34 .done 0))

/-- CLOSE-TICKET removes a ticket in any state (R126): if it ever worked, its PENDING items go to the log as NOT-DONE
in item order, each with the number after the one before (R137); if it was AWAITING or WORKING its zone's demand falls,
and at 0 the zone is released with RELEASED at its owners (R119) and the requested state brought (R160): where it does
not arrive at PARKED, as while another zone still holds it back (R159), as `broughtRunning` says; where the close ends
a hold-back, to PARKED at that moment as `Parking` spells it (R159, R161). Nothing stands outstanding before an entry
to PARKED (log 6). -/
def Obligations.CloseTicketRemoves : Prop :=
  ∀ (sel : Byte) (s : State), s.Taking .m →
    let r : State := s.received .m
    (r.ticket? sel.toNat = none → exec (.closeTicket .m sel) s = .next (r.answering .m 0x35 .noTicket 0)) ∧
    (∀ t, r.ticket? sel.toNat = some t →
      let h := r.tickets.holds.get t.zone
      let undone := (t.items.filter fun i => i.outcome = .pending).map Item.element
      let written := if t.everWorked then undone else []
      let l := written.foldl (fun u e => u.logged e sel.toNat .notDone (r.elements.get e).wear
        (r.elements.get e).renewCount) r
      let table := r.tickets.table.filter fun u : Ticket => u.number ≠ sel.toNat
      let told (b : NoticeBox) (owns : Bool) : NoticeBox :=
        if owns then { b with events := b.events ||| 0x0040 } else b
      (t.state = .planned ∨ t.state = .stalled → exec (.closeTicket .m sel) s =
        .next ({ l with tickets := { r.tickets with table := table } }.answering .m 0x35 .done written.length)) ∧
      (t.state = .awaiting ∨ t.state = .working → 1 < h.demand → exec (.closeTicket .m sel) s =
        .next ({ l with tickets := { r.tickets with
          table := table
          holds := r.tickets.holds.set t.zone { h with demand := h.demand - 1 } } }.answering .m 0x35 .done
            written.length)) ∧
      let freed : State := { l with
        notices := ⟨told r.notices.a ((r.owner t.zone).has .a), told r.notices.b ((r.owner t.zone).has .b),
          r.notices.m⟩
        tickets := { r.tickets with
          table := table
          holds := r.tickets.holds.set t.zone ⟨.free, false, false, 0⟩ } }
      (t.state = .awaiting ∨ t.state = .working → h.demand = 1 → r.ctl.requested = r.ctl.op →
        exec (.closeTicket .m sel) s = .next (freed.answering .m 0x35 .done written.length)) ∧
      (t.state = .awaiting ∨ t.state = .working → h.demand = 1 →
        (r.ctl.requested = .parked → freed.heldBack = true) → exec (.closeTicket .m sel) s =
          .next ((freed.broughtRunning r.ctl).answering .m 0x35 .done written.length)) ∧
      (t.state = .awaiting ∨ t.state = .working → h.demand = 1 → r.ctl.requested = .parked → freed.heldBack = false →
        r.outstanding = false → freed.Parking fun u => exec (.closeTicket .m sel) s =
          .next (u.answering .m 0x35 .done written.length)))

/-! ## Signal lines -/

/-- READ-LINES returns, in bit n, the level R7 gives line SLn, the pins standing at the levels given: the last sample
of a CONTACT TACH line that has one, else the level a driven or held pin shows, else the level on the pin (R7, R184).
That the levels come with the command is the model's choice (log 8). -/
def Obligations.ReadLinesLevels : Prop :=
  ∀ (p : Port) (levels : Pins) (s : State), s.Taking p →
    let r : State := s.received p
    let t : State := { r with pins := { r.pins with input := levels } }
    ∃ d, d < 2 ^ 24 ∧ exec (.readLines p levels) s = .next (t.answering p 0x10 .done d) ∧
      ∀ i : Fin 24,
        let l := r.lines.get i
        let contact := l.function = .tach ∧ l.sensing = .contact
        (∀ b, contact → l.sample = some b → d.testBit i.val = b) ∧
        (contact → l.sample = none → d.testBit i.val = levels.getLsbD i.val) ∧
        (∀ b, ¬contact → r.pinDrive i = some b → d.testBit i.val = b) ∧
        (¬contact → r.pinDrive i = none → d.testBit i.val = levels.getLsbD i.val)

/-- SET-LINE of the direction, the PLAIN level, the pull-up, the float setting, the wake enable and the owner side, and
SET-LINE-LEVEL: the one field is stored and nothing else changes, but that a held pin whose line becomes an input is
released (R3, R6, R19). -/
def Obligations.LineSettingStored : Prop :=
  ∀ (i : Fin 24) (s : State), s.Taking .m →
    let r : State := s.received .m
    let l := r.lines.get i
    let sel := BitVec.ofNat 8 i.val
    let stored (c : Instr) (code : Byte) (l' : Line) : Prop :=
      exec c s = .next ((r.lineWritten i l').answering .m code .done 0)
    (∀ v b, (v, b) ∈ [(0, false), (1, true)] →
      stored (.setLineDirection .m sel (BitVec.ofNat 24 v)) 0x11
        { l with direction := if b then .output else .input } ∧
      stored (.setLineLevelField .m sel (BitVec.ofNat 24 v)) 0x11 { l with level := b } ∧
      stored (.setLinePullUp .m sel (BitVec.ofNat 24 v)) 0x11 { l with pullUp := b } ∧
      stored (.setLineFloat .m sel (BitVec.ofNat 24 v)) 0x11 { l with float := b } ∧
      stored (.setLineWakeEnable .m sel (BitVec.ofNat 24 v)) 0x11 { l with wake := b } ∧
      stored (.setLineOwnerSide .m sel (BitVec.ofNat 24 v)) 0x11 { l with side := if b then .b else .a } ∧
      stored (.setLineLevel .m sel (BitVec.ofNat 32 v)) 0x13 { l with level := b })

/-- SET-LINE of the function, the sensing mode, the polarity and the zone. A change of function clears the count (R13);
each of the first three, where it changes the field, loses the scan sample (R10). A line that is thereby active in a
zone it was not active in raises ACCESS at every port, or, in a HELD zone, sets access-seen on its WORKING tickets
(R15, R16). -/
def Obligations.LineRoleWritten : Prop :=
  ∀ (i : Fin 24) (s : State), s.Taking .m →
    let r : State := s.received .m
    let l := r.lines.get i
    let sel := BitVec.ofNat 8 i.val
    let active (k : Line) (z : Fin 8) : Prop := k.function = .gate ∧ k.filtered = some k.polarity ∧ k.zone = z
    let written (c : Instr) (l' : Line) : Prop :=
      let w : State := r.lineWritten i l'
      ((∀ z, active l' z → active l z) → exec c s = .next (w.answering .m 0x11 .done 0)) ∧
      (∀ z, active l' z → ¬active l z →
        ((r.tickets.holds.get z).state ≠ .held → exec c s = .next ((w.noticed 0x0400).answering .m 0x11 .done 0)) ∧
        ((r.tickets.holds.get z).state = .held → exec c s = .next ({ w with tickets := { w.tickets with
          table := w.tickets.table.map fun t : Ticket =>
            if t.zone = z ∧ t.state = TicketState.working then { t with accessSeen := true } else t } }.answering .m
              0x11 .done 0)))
    (∀ v f, (v, f) ∈ [(0, LineFunction.plain), (1, .tach), (2, .gate), (3, .hold), (4, .lamp)] →
      written (.setLineFunction .m sel (BitVec.ofNat 24 v)) (if l.function = f then l else { l with
        function := f
        count := 0
        sample := none })) ∧
    (∀ v m, (v, m) ∈ [(0, Sensing.driven), (1, .contact)] →
      written (.setLineSensingMode .m sel (BitVec.ofNat 24 v)) (if l.sensing = m then l else { l with
        sensing := m
        sample := none })) ∧
    (∀ v b, (v, b) ∈ [(0, false), (1, true)] →
      written (.setLinePolarity .m sel (BitVec.ofNat 24 v)) (if l.polarity = b then l else { l with
        polarity := b
        sample := none })) ∧
    (∀ z : Fin 8, written (.setLineZone .m sel (BitVec.ofNat 24 z.val)) { l with zone := z })

/-! ## Reads -/

/-- READ-LINE-SETTING and READ-ELEMENT return the field that R184 and R183 number, as they code it, and change nothing;
a record or a field number out of range is refused BAD-ARG (R4, R60). The sampled level is the filtered level of a
DRIVEN TACH or GATE line, the last scan sample of a CONTACT TACH line, and NONE of any other (R2). READ-TABLE returns
the item that R182 numbers and codes and changes nothing; an item above 20, or an index above 7 of an indexed item, is
refused BAD-ARG. -/
def Obligations.RecordAndTableReads : Prop :=
  (∀ l : Line, (l.function = .tach → l.sensing = .driven → l.sampledLevel = l.filtered) ∧
    (l.function = .tach → l.sensing = .contact → l.sampledLevel = l.sample) ∧
    (l.function = .gate → l.sampledLevel = l.filtered) ∧
    (l.function = .plain ∨ l.function = .hold ∨ l.function = .lamp → l.sampledLevel = none)) ∧
  (∀ x n, (x, n) ∈ [(LineFunction.plain, 0), (.tach, 1), (.gate, 2), (.hold, 3), (.lamp, 4)] → x.code = n) ∧
  (∀ x n, (x, n) ∈ [(Direction.input, 0), (.output, 1)] → x.code = n) ∧
  (∀ x n, (x, n) ∈ [(Sensing.driven, 0), (.contact, 1)] → x.code = n) ∧
  (∀ x n, (x, n) ∈ [(Side.a, 0), (.b, 1)] → ownerSideCode x = n) ∧
  (∀ x n, (x, n) ∈ [(ElementState.idle, 0), (.fresh, 1), (.worn, 2), (.due, 3), (.suspect, 4)] → x.code = n) ∧
  (∀ x n, (x, n) ∈ [(Owner.nobody, 0), (.a, 1), (.b, 2), (.both, 3)] → x.code = n) ∧
  (∀ x n, (x, n) ∈ [(HistoryMode.stop, 0), (.cycle, 1)] → x.code = n) ∧
  (∀ (p : Port) (s : State), s.Taking p →
    let r : State := s.received p
    let flag (b : Bool) : Nat := if b then 1 else 0
    (∀ (i : Fin 24) (n d : Nat),
      let l := r.lines.get i
      (n, d) ∈ [(0, l.function.code), (1, l.direction.code), (2, flag l.level), (3, flag l.pullUp), (4, flag l.float),
          (5, l.sensing.code), (6, flag l.polarity), (7, flag l.wake), (8, l.zone.val), (9, ownerSideCode l.side),
          (10, match l.sampledLevel with | some b => flag b | none => 2),
          (11, if l.function = .tach then l.count else 0)] →
        exec (.readLineSetting p (BitVec.ofNat 8 i.val) (BitVec.ofNat 32 n)) s =
          .next (r.answering p 0x12 .done d)) ∧
    (∀ (e : Fin 64) (n d : Nat),
      let x := r.elements.get e
      (n, d) ∈ [(0, x.zone.val), (1, x.tach), (2, x.ppr), (3, x.ratio), (4, x.reference.getD 255), (5, x.expected),
          (6, x.tolerance), (7, x.slipWeight), (8, x.limit), (9, x.margin), (10, x.state.code), (11, flag x.unfed),
          (12, x.wear), (13, x.carry), (14, x.residue), (15, x.accumulator), (16, x.renewCount), (17, x.slipCount),
          (18, x.check), (19, x.rate), (20, flag x.seeded), (21, x.projection)] →
        exec (.readElement p (BitVec.ofNat 8 e.val) (BitVec.ofNat 32 n)) s = .next (r.answering p 0x20 .done d)) ∧
    (∀ (sel : Byte) (val : Word), 23 < sel.toNat ∨ 11 < val.toNat →
      exec (.readLineSetting p sel val) s = .next (r.answering p 0x12 .badArg 0)) ∧
    (∀ (sel : Byte) (val : Word), 63 < sel.toNat ∨ 21 < val.toNat →
      exec (.readElement p sel val) s = .next (r.answering p 0x20 .badArg 0))) ∧
  (∀ (p : Port) (s : State), s.Taking p →
    let r : State := s.received p
    let flag (b : Bool) : Nat := if b then 1 else 0
    let report (x : LoadReport) : Nat := x.cls + 2 ^ 8 * x.hold + 2 ^ 16 * flag x.lapsed
    (∀ (idx : Byte) (n d : Nat), (n, d) ∈ [(0, r.pacer.divider), (1, r.pacer.ms), (2, r.window.length),
        (3, r.window.remaining), (4, r.window.seq), (5, r.history.mode.code), (14, r.plan.shift), (15, r.plan.horizon),
        (16, r.tickets.grantTime), (17, flag r.ctl.fittedA), (18, flag r.ctl.fittedB), (19, r.scan.quietIndex),
        (20, r.scan.parkIndex)] →
      exec (.readTable p (BitVec.ofNat 8 n) idx) s = .next (r.answering p 0x19 .done d)) ∧
    (∀ (i : Fin 8) (n d : Nat),
      let b := r.book.zones.get i
      (n, d) ∈ [(6, b.owner.code), (7, b.fallback), (8, b.holdTime), (9, report b.reportA), (10, report b.reportB),
          (11, r.book.weights.get i), (12, (r.bands.get i).bound), (13, (r.bands.get i).factor)] →
        exec (.readTable p (BitVec.ofNat 8 n) (BitVec.ofNat 8 i.val)) s = .next (r.answering p 0x19 .done d)) ∧
    (∀ item idx : Byte, (20 < item.toNat ∨ (6 ≤ item.toNat ∧ item.toNat ≤ 13 ∧ 7 < idx.toNat)) →
      exec (.readTable p item idx) s = .next (r.answering p 0x19 .badArg 0)))

/-- READ-PLAN and READ-ZONE return what R185 lays out, EMPTY past the last member, and change nothing; what is out of
range is refused BAD-ARG (R100, R102). READ-TICKET returns what R127 and R185 lay out and changes nothing: the number
at a rank in ascending order, the table's counts, a ticket's parts with its timer in whole seconds rounded up (R118).
The value is checked before the ticket. -/
def Obligations.PlanZoneAndTicketReads : Prop :=
  (∀ x n, (x, n) ∈ [(ElementState.idle, 0), (.fresh, 1), (.worn, 2), (.due, 3), (.suspect, 4)] → x.code = n) ∧
  (∀ x n, (x, n) ∈ [(HoldState.free, 0), (.requested, 1), (.held, 2)] → x.code = n) ∧
  (∀ x n, (x, n) ∈ [(TicketState.planned, 0), (.awaiting, 1), (.working, 2), (.stalled, 3)] → x.code = n) ∧
  (∀ x n, (x, n) ∈ [(ItemOutcome.pending, 0), (.renewed, 1), (.inspected, 2)] → x.code = n) ∧
  (∀ (p : Port) (s : State), s.Taking p →
    let r : State := s.received p
    let flag (b : Bool) : Nat := if b then 1 else 0
    (∀ k, k < 64 → ∀ n, r.plan.due[k]? = some n →
      exec (.readPlan p (BitVec.ofNat 8 k) 0) s = .next (r.answering p 0x28 .done
        (n.val + 2 ^ 8 * (r.elements.get n).state.code + 2 ^ 16 * (r.elements.get n).projection))) ∧
    (∀ k : Nat, k < 64 → r.plan.due.length ≤ k →
      exec (.readPlan p (BitVec.ofNat 8 k) 0) s = .next (r.answering p 0x28 .empty 0)) ∧
    (∀ sel : Byte, 63 < sel.toNat → exec (.readPlan p sel 0) s = .next (r.answering p 0x28 .badArg 0)) ∧
    (∀ sel : Byte, exec (.readPlan p sel 1) s =
      .next (r.answering p 0x28 .done (r.plan.generation + 2 ^ 16 * r.plan.due.length))) ∧
    (∀ (sel : Byte) (val : Word), 1 < val.toNat →
      exec (.readPlan p sel val) s = .next (r.answering p 0x28 .badArg 0)) ∧
    (∀ z : Fin 8,
      let h := r.tickets.holds.get z
      exec (.readZone p (BitVec.ofNat 8 z.val)) s = .next (r.answering p 0x29 .done
        (r.plan.due.countP (fun n => (r.elements.get n).zone = z) +
          2 ^ 8 * (List.finRange 64).countP (fun n => (r.elements.get n).zone = z ∧ (r.elements.get n).state = .due) +
          2 ^ 16 * (r.book.zones.get z).effectiveClass + 2 ^ 20 * h.state.code + 2 ^ 22 * flag h.grantA +
          2 ^ 23 * flag h.grantB))) ∧
    (∀ sel : Byte, 7 < sel.toNat → exec (.readZone p sel) s = .next (r.answering p 0x29 .badArg 0))) ∧
  (∀ (p : Port) (s : State), s.Taking p →
    let r : State := s.received p
    let flag (b : Bool) : Nat := if b then 1 else 0
    let numbers := r.tickets.table.map Ticket.number
    (∀ n, numbers.Nodup → n ∈ numbers → numbers.countP (fun k => k < n) ≤ 7 →
      exec (.readTicket p 0 (BitVec.ofNat 32 (numbers.countP fun k => k < n))) s =
        .next (r.answering p 0x36 .done n)) ∧
    (∀ k, k ≤ 7 → numbers.length ≤ k →
      exec (.readTicket p 0 (BitVec.ofNat 32 k)) s = .next (r.answering p 0x36 .empty 0)) ∧
    exec (.readTicket p 0 8) s = .next (r.answering p 0x36 .done (numbers.length + 2 ^ 8 * r.tickets.next)) ∧
    (∀ val : Word, 8 < val.toNat → exec (.readTicket p 0 val) s = .next (r.answering p 0x36 .badArg 0)) ∧
    (∀ sel : Byte, sel ≠ 0 →
      (∀ val : Word, 7 < val.toNat → exec (.readTicket p sel val) s = .next (r.answering p 0x36 .badArg 0)) ∧
      (∀ val : Word, val.toNat ≤ 7 → r.ticket? sel.toNat = none →
        exec (.readTicket p sel val) s = .next (r.answering p 0x36 .noTicket 0)) ∧
      (∀ t, r.ticket? sel.toNat = some t →
        exec (.readTicket p sel 0) s = .next (r.answering p 0x36 .done (t.zone.val + 2 ^ 8 * t.state.code +
          2 ^ 16 * t.items.length + 2 ^ 24 * flag t.everWorked + 2 ^ 25 * flag t.accessSeen)) ∧
        (∃ sec, t.timer ≤ 1000 * sec ∧ 1000 * sec < t.timer + 1000 ∧
          exec (.readTicket p sel 1) s = .next (r.answering p 0x36 .done sec)) ∧
        (∀ k, k < 6 → ∀ i, t.items[k]? = some i → exec (.readTicket p sel (BitVec.ofNat 32 (k + 2))) s =
          .next (r.answering p 0x36 .done (i.element.val + 2 ^ 8 * i.outcome.code))) ∧
        (∀ k, k < 6 → t.items.length ≤ k →
          exec (.readTicket p sel (BitVec.ofNat 32 (k + 2))) s = .next (r.answering p 0x36 .empty 0)))))

/-- A read of either ring returns the field under the caller's cursor, coded as R187 states, and moves that cursor
alone: to the next field, and from the last field to field 0 of the next newer record or past newest (R35, R139). Past
newest a log read, and a history read in STOP mode or of an empty ring, is EMPTY; in CYCLE mode it goes on from the
oldest record. -/
def Obligations.RingReads : Prop :=
  (∀ x n, (x, n) ∈ [(LogOutcome.renewed, 0), (.inspected, 1), (.notDone, 2)] → x.code = n) ∧
  (∀ k : Markers, k.code = (if k.shift then 1 else 0) + (if k.park then 2 else 0) + (if k.service then 4 else 0) +
    (if k.divider then 8 else 0) + if k.start then 16 else 0) ∧
  (∀ (p : Port) (s : State), s.Taking p → s.HistoryRuns → s.LogRuns →
    let r : State := s.received p
    let i := r.ports.get p
    let hist (c : Cursor) : State := { r with ports := r.ports.set p { i with history := c } }
    let logAt (c : Cursor) : State := { r with ports := r.ports.set p { i with log := c } }
    (∀ w ∈ r.history.ring, ∀ f, i.history = .on w.seq f → ∀ d,
      (f, d) ∈ [(0, w.seq), (1, w.loaded), (2, w.sums.get 0), (3, w.sums.get 1), (4, w.sums.get 2), (5, w.sums.get 3),
          (6, w.sums.get 4), (7, w.sums.get 5), (8, w.sums.get 6), (9, w.sums.get 7), (10, w.markers.code)] →
        exec (.readHistory p 0) s = .next ((hist (
          if f < 10 then .on w.seq (f + 1)
          else if w.seq = r.window.seq then .past
          else .on ((w.seq + 1) % 4294967296) 0)).answering p 0x38 .done d)) ∧
    (i.history = .past →
      (r.history.mode = .stop ∨ r.history.ring = [] → exec (.readHistory p 0) s =
        .next (r.answering p 0x38 .empty 0)) ∧
      (r.history.mode = .cycle → ∀ w rest, r.history.ring = w :: rest → exec (.readHistory p 0) s =
        .next ((hist (.on w.seq 1)).answering p 0x38 .done w.seq))) ∧
    (exec (.readHistory p 1) s = .next (r.answering p 0x38 .done (
      match i.history with
      | .past => 11
      | .on _ f => f))) ∧
    (∀ sel : Byte, 1 < sel.toNat → exec (.readHistory p sel) s = .next (r.answering p 0x38 .badArg 0)) ∧
    (∀ w ∈ r.log.ring, ∀ f, i.log = .on w.seq f → ∀ d,
      (f, d) ∈ [(0, w.seq), (1, w.element.val), (2, w.ticket), (3, w.outcome.code), (4, w.wear), (5, w.renewCount),
          (6, w.window)] →
        exec (.readLog p 0) s = .next ((logAt (
          if f < 6 then .on w.seq (f + 1)
          else if w.seq = r.log.seq then .past
          else .on ((w.seq + 1) % 4294967296) 0)).answering p 0x3C .done d)) ∧
    (i.log = .past → exec (.readLog p 0) s = .next (r.answering p 0x3C .empty 0)) ∧
    (exec (.readLog p 1) s = .next (r.answering p 0x3C .done (
      match i.log with
      | .past => 7
      | .on _ f => f))) ∧
    exec (.readLog p 2) s = .next (r.answering p 0x3C .done r.log.seq) ∧
    exec (.readLog p 3) s = .next (r.answering p 0x3C .done r.log.ring.length) ∧
    (∀ sel : Byte, 3 < sel.toNat → exec (.readLog p sel) s = .next (r.answering p 0x3C .badArg 0)))

/-- REWIND-HISTORY and REWIND-LOG move the caller's cursor to field 0 of the oldest record, past newest in an empty
ring (R37, R141); CLEAR-HISTORY and CLEAR-LOG empty a ring and set all three cursors past newest, and leave the
numbers, the sums and the markers (R38, R141); SHIFT-MARK sets the SHIFT marker alone (R33). -/
def Obligations.RewindClearAndMark : Prop :=
  ∀ (p : Port) (s : State), s.Taking p →
    let r : State := s.received p
    let i := r.ports.get p
    let hist (c : Cursor) : State := { r with ports := r.ports.set p { i with history := c } }
    let logAt (c : Cursor) : State := { r with ports := r.ports.set p { i with log := c } }
    (r.history.ring = [] → exec (.rewindHistory p) s = .next ((hist .past).answering p 0x39 .done 0)) ∧
    (∀ w rest, r.history.ring = w :: rest →
      exec (.rewindHistory p) s = .next ((hist (.on w.seq 0)).answering p 0x39 .done 0)) ∧
    (r.log.ring = [] → exec (.rewindLog p) s = .next ((logAt .past).answering p 0x3D .done 0)) ∧
    (∀ w rest, r.log.ring = w :: rest →
      exec (.rewindLog p) s = .next ((logAt (.on w.seq 0)).answering p 0x3D .done 0)) ∧
    (p = .m → exec (.clearHistory p) s = .next ({ r with
      history := { r.history with ring := [] }
      ports := r.ports.map fun k : Interface => { k with history := Cursor.past } }.answering p 0x3A .done 0)) ∧
    (p = .m → exec (.clearLog p) s = .next ({ r with
      log := { r.log with ring := [] }
      ports := r.ports.map fun k : Interface => { k with log := Cursor.past } }.answering p 0x3E .done 0)) ∧
    (p ≠ .m → exec (.clearHistory p) s = .next (r.answering p 0x3A .notPermitted 0) ∧
      exec (.clearLog p) s = .next (r.answering p 0x3E .notPermitted 0)) ∧
    (p ≠ .m → exec (.shiftMark p) s = .next ({ r with history := { r.history with
      markers := { r.history.markers with shift := true } } }.answering p 0x09 .done 0))

/-! ## Elements -/

/-- The check word is the sum of R83: modulo 65536, the element number, the fields of the record, a reference line that
is absent as 255, and the two 16-bit halves of L, M and the wear. SET-ELEMENT of the zone, tach line, PPR, G or a slip
field: a write of the value held changes nothing; any other is stored with the check word, the slip tolerance and the
slip weight clamped up, and a change of tach line, PPR or G sets Q to 0 (R61 to R63). The zone is refused BUSY while
the element is a ticket's item (R65). That BUSY comes first where the zone written is the one held, and that a value
clamped to the one held changes nothing, is the model's reading (log 17). -/
def Obligations.ElementFieldStored : Prop :=
  (∀ (e : Element) (n : Fin 64), e.sum n = (n.val + e.zone.val + e.tach + e.ppr + e.ratio + e.expected + e.tolerance +
    e.slipWeight + e.reference.getD 255 + e.limit % 65536 + e.limit / 65536 % 65536 + e.margin % 65536 +
    e.margin / 65536 % 65536 + e.wear % 65536 + e.wear / 65536 % 65536) % 65536) ∧
  (∀ (n : Fin 64) (v : Nat) (s : State), s.Taking .m → v < 2 ^ 24 →
    let r : State := s.received .m
    let e := r.elements.get n
    let sel := BitVec.ofNat 8 n.val
    let fv : FieldValue := BitVec.ofNat 24 v
    let stored (c : Instr) (e' : Element) : Prop :=
      (e' = e → exec c s = .next (r.answering .m 0x21 .done 0)) ∧
      (e' ≠ e → exec c s =
        .next ({ r with elements := r.elements.set n { e' with check := e'.sum n } }.answering .m 0x21 .done 0))
    (v ≤ 23 → stored (.setElementTachLine .m sel fv) { e with
      tach := v
      residue := if e.tach = v then e.residue else 0 }) ∧
    (1 ≤ v → v ≤ 255 → stored (.setElementPpr .m sel fv) { e with
      ppr := v
      residue := if e.ppr = v then e.residue else 0 }) ∧
    (1 ≤ v → v ≤ 4095 → stored (.setElementRatio .m sel fv) { e with
      ratio := v
      residue := if e.ratio = v then e.residue else 0 }) ∧
    (v ≤ 23 → stored (.setElementReferenceLine .m sel fv) { e with reference := some v }) ∧
    (v = 255 → stored (.setElementReferenceLine .m sel fv) { e with reference := none }) ∧
    (1 ≤ v → v ≤ 4095 → stored (.setElementExpectedRatio .m sel fv) { e with expected := v }) ∧
    (v ≤ 255 → stored (.setElementSlipTolerance .m sel fv) { e with tolerance := max 1 v }) ∧
    (v ≤ 255 → stored (.setElementSlipWeight .m sel fv) { e with slipWeight := max 16 v }) ∧
    (∀ z : Fin 8, v = z.val →
      (r.onTicket n = true → exec (.setElementZone .m sel fv) s = .next (r.answering .m 0x21 .busy 0)) ∧
      (r.onTicket n = false → stored (.setElementZone .m sel fv) { e with zone := z })))

/-- SET-ELEMENT of L or M: on an element in use and not SUSPECT a change derives its state again, raising WORN on entry
to WORN, recomputes its projection and brings the due list into order; on an IDLE or SUSPECT one it is only stored; the
check word is recomputed either way; the value held changes nothing (R64). -/
def Obligations.LimitAndMarginStored : Prop :=
  ∀ (n : Fin 64) (v : Nat) (s : State), s.Taking .m → v ≤ 1048575 →
    let r : State := s.received .m
    let e := r.elements.get n
    let sel := BitVec.ofNat 8 n.val
    let stored (c : Instr) (e' : Element) : Prop :=
      let derived : Element := { e' with
        state := derivedState e'.wear e'.limit e'.margin
        projection := projectionOf e'.wear e'.limit e'.rate }
      (e' = e → exec c s = .next (r.answering .m 0x21 .done 0)) ∧
      (e' ≠ e → (e.state = .idle ∨ e.state = .suspect) → exec c s =
        .next ({ r with elements := r.elements.set n { e' with check := e'.sum n } }.answering .m 0x21 .done 0)) ∧
      (e' ≠ e → e.state ≠ .idle → e.state ≠ .suspect → exec c s =
        .next ((r.restated n { derived with check := derived.sum n }).answering .m 0x21 .done 0))
    (1 ≤ v → stored (.setElementLimit .m sel (BitVec.ofNat 24 v)) { e with limit := v }) ∧
    stored (.setElementMargin .m sel (BitVec.ofNat 24 v)) { e with margin := v }

/-- The state an in-use element takes from its wear, limit and margin (R57); its projection, 0 at the limit, 65535 at
rate 0, else the least T with 16m ≤ T × R, at most 65535 (R92). -/
def Obligations.StateAndProjection : Prop :=
  ∀ wear limit margin rate : Nat,
    (derivedState wear limit margin = .due ↔ limit * 4096 ≤ wear) ∧
    (derivedState wear limit margin = .worn ↔ wear < limit * 4096 ∧ limit * 4096 ≤ wear + margin * 4096) ∧
    (derivedState wear limit margin = .fresh ↔ wear + margin * 4096 < limit * 4096) ∧
    (limit * 4096 ≤ wear → projectionOf wear limit rate = 0) ∧
    (wear < limit * 4096 → rate = 0 → projectionOf wear limit rate = 65535) ∧
    (wear < limit * 4096 → 0 < rate →
      projectionOf wear limit rate ≤ 65535 ∧
      (∀ t, t < projectionOf wear limit rate → t * rate < 16 * (limit * 4096 - wear)) ∧
      (projectionOf wear limit rate < 65535 →
        16 * (limit * 4096 - wear) ≤ projectionOf wear limit rate * rate))

/-- ENABLE-ELEMENT (R66): ALREADY for an element in use, INCOMPLETE for a field out of range, else the carries, the
accumulator, the slip count and the rate at 0, the state derived and the projection recomputed, which is 0 or 65535.
ACCEPT-ELEMENT (R70): DONE and no change for an element that is not SUSPECT, INCOMPLETE as before, else the state and
projection formed again and every account kept, Q alone set to 0 if not below PPR. -/
def Obligations.EnableAndAccept : Prop :=
  ∀ (n : Fin 64) (s : State), s.Taking .m →
    let r : State := s.received .m
    let e := r.elements.get n
    let sel := BitVec.ofNat 8 n.val
    let complete := e.tach ≤ 23 ∧ 1 ≤ e.ppr ∧ e.ppr ≤ 255 ∧ 1 ≤ e.ratio ∧ e.ratio ≤ 4095 ∧
      (∀ l, e.reference = some l → l ≤ 23) ∧ e.expected ≤ 4095 ∧ 1 ≤ e.tolerance ∧ e.tolerance ≤ 255 ∧
      16 ≤ e.slipWeight ∧ e.slipWeight ≤ 255 ∧ 1 ≤ e.limit ∧ e.limit ≤ 1048575 ∧ e.margin ≤ 1048575
    let enabled : Element := { e with
      carry := 0
      residue := 0
      accumulator := 0
      slipCount := 0
      unfed := false
      rate := 0
      seeded := false
      state := derivedState e.wear e.limit e.margin
      projection := if e.limit * 4096 ≤ e.wear then 0 else 65535 }
    let accepted : Element := { e with
      residue := if e.residue < e.ppr then e.residue else 0
      state := derivedState e.wear e.limit e.margin
      projection := projectionOf e.wear e.limit e.rate }
    let answered (c : Instr) (code : Byte) (t : State) (x : Result) : Prop :=
      exec c s = .next (t.answering .m code x 0)
    (e.state ≠ .idle → answered (.enableElement .m sel) 0x22 r .already) ∧
    (e.state = .idle → ¬complete → answered (.enableElement .m sel) 0x22 r .incomplete) ∧
    (e.state = .idle → complete →
      answered (.enableElement .m sel) 0x22 (r.restated n { enabled with check := enabled.sum n }) .done) ∧
    (e.state ≠ .suspect → answered (.acceptElement .m sel) 0x25 r .done) ∧
    (e.state = .suspect → ¬complete → answered (.acceptElement .m sel) 0x25 r .incomplete) ∧
    (e.state = .suspect → complete →
      answered (.acceptElement .m sel) 0x25 (r.restated n { accepted with check := accepted.sum n }) .done)

/-- DISABLE-ELEMENT (R68): BUSY for a ticket's item, no change to an IDLE element, else IDLE and off the due list,
UNFED cleared and every other field kept. PRESET-WEAR (R69): BUSY for an element in use, else the wear and the check
word alone. An element number above 63 is refused BAD-ARG by these, ENABLE-ELEMENT and ACCEPT-ELEMENT. -/
def Obligations.DisableAndPreset : Prop :=
  ∀ (s : State), s.Taking .m →
    let r : State := s.received .m
    (∀ (n : Fin 64) (val : Word),
      let e := r.elements.get n
      let sel := BitVec.ofNat 8 n.val
      let preset : Element := { e with wear := val.toNat }
      (r.onTicket n = true → exec (.disableElement .m sel) s = .next (r.answering .m 0x23 .busy 0)) ∧
      (r.onTicket n = false → e.state = .idle →
        exec (.disableElement .m sel) s = .next (r.answering .m 0x23 .done 0)) ∧
      (r.onTicket n = false → e.state ≠ .idle → exec (.disableElement .m sel) s =
        .next ((r.replanned (r.elements.set n { e with
          state := .idle
          unfed := false }) r.plan.horizon).answering .m 0x23 .done 0)) ∧
      (e.state ≠ .idle → exec (.presetWear .m sel val) s = .next (r.answering .m 0x24 .busy 0)) ∧
      (e.state = .idle → exec (.presetWear .m sel val) s =
        .next ({ r with elements := r.elements.set n { preset with check := preset.sum n } }.answering .m 0x24
          .done 0))) ∧
    (∀ sel : Byte, 63 < sel.toNat →
      exec (.enableElement .m sel) s = .next (r.answering .m 0x22 .badArg 0) ∧
      exec (.disableElement .m sel) s = .next (r.answering .m 0x23 .badArg 0) ∧
      (∀ val, exec (.presetWear .m sel val) s = .next (r.answering .m 0x24 .badArg 0)) ∧
      exec (.acceptElement .m sel) s = .next (r.answering .m 0x25 .badArg 0))

/-! ## Pulses, epochs and windows -/

/-- A level accepted by the filter (R1). A DRIVEN TACH line counts a pulse at a change to its active level, none at the
first level established (R9); at 65535 it is lost with OVERRUN at the Maintenance Port (R8); a wake-enabled line then
wakes a parked device (R14), the phase of the 1 ms base left (log 23), for an edge lost at a full counter too, which is
the model's choice (log 21). The level it already has changes nothing, which is the model's choice (log 9); any level
on a line that is not TACH or GATE is recorded and no more. The level accepted is kept as the pin's level from outside
(log 8). -/
def Obligations.TachEdgeCounts : Prop :=
  ∀ (i : Fin 24) (level : Bool) (s : State), s.ctl.op ≠ .retained →
    let l := s.lines.get i
    let pin (b : Bool) : Pins := if b then s.pins.input ||| BitVec.twoPow 24 i.val
      else s.pins.input &&& ~~~BitVec.twoPow 24 i.val
    let accepted (count : Nat) : State := { s with
      lines := s.lines.set i { l with
        filtered := some level
        count := count }
      pins := { s.pins with input := pin level } }
    let driven := l.function = .tach ∧ l.sensing = .driven
    let edge := l.filtered = some !level ∧ level = l.polarity
    let full : State := { accepted l.count with notices :=
      { s.notices with m := { s.notices.m with events := s.notices.m.events ||| 0x0200 } } }
    (l.filtered = some level → exec (.levelFilterAccept i level) s = .next s) ∧
    (l.filtered ≠ some level → ¬(driven ∧ edge) → l.function ≠ .gate →
      exec (.levelFilterAccept i level) s = .next (accepted l.count)) ∧
    (driven → edge → l.count < 65535 → exec (.levelFilterAccept i level) s =
      .next (if l.wake then (accepted (l.count + 1)).awake else accepted (l.count + 1))) ∧
    (driven → edge → l.count = 65535 →
      exec (.levelFilterAccept i level) s = .next (if l.wake then full.awake else full))

/-- A GATE line that becomes active raises ACCESS at every port in a zone that is not HELD, and in a HELD one sets
access-seen on its WORKING tickets (R15, R16); it raises nothing when it stops being active; a change of level on a
wake-enabled one wakes a parked device (R14), the phase of the 1 ms base left (log 23), a first level established does
not (log 9). The level accepted is kept as the pin's level from outside (log 8). -/
def Obligations.GateOpens : Prop :=
  ∀ (i : Fin 24) (level : Bool) (s : State), s.ctl.op ≠ .retained →
    let l := s.lines.get i
    let pin : Pins := if level then s.pins.input ||| BitVec.twoPow 24 i.val
      else s.pins.input &&& ~~~BitVec.twoPow 24 i.val
    let accepted : State := { s with
      lines := s.lines.set i { l with filtered := some level }
      pins := { s.pins with input := pin } }
    let woken (t : State) : State := if l.wake = true ∧ l.filtered ≠ none then t.awake else t
    l.function = .gate → l.filtered ≠ some level →
      (level ≠ l.polarity → exec (.levelFilterAccept i level) s = .next (woken accepted)) ∧
      (level = l.polarity → (s.tickets.holds.get l.zone).state ≠ .held →
        exec (.levelFilterAccept i level) s = .next (woken (accepted.noticed 0x0400))) ∧
      (level = l.polarity → (s.tickets.holds.get l.zone).state = .held →
        exec (.levelFilterAccept i level) s = .next (woken { accepted with tickets := { s.tickets with
          table := s.tickets.table.map fun t : Ticket =>
            if t.zone = l.zone ∧ t.state = TicketState.working then { t with accessSeen := true } else t } }))

/-- A contact scan, said whole. It samples each CONTACT TACH line, in PARKED the wake-enabled ones alone, and counts a
pulse where the sample goes from the inactive to the active level (R10, R11); a pulse at a full counter is lost with
OVERRUN at the Maintenance Port (R8); the timer starts the period of the state in force again (R11), and nothing
happens where it is stopped; the scan table of the other periods is spelled first. In PARKED a pulse then wakes the
device as `awake` spells it (R14, R163); that a pulse lost at a full counter wakes too (log 21), and that a wake leaves
the phase of the 1 ms base (log 23), is the model's choice. The levels are kept for the scans the device makes of
itself (log 8). A half-cycle of the blink clock goes from the lit half to the dark one or back, while the clock runs,
and changes nothing else (R18); in PARKED the clock keeps its phase. Where the half-cycle lies in its half when the row
is sent is the model's choice (log 5). -/
def Obligations.ScanAndBlink : Prop :=
  Config.scanTable = [2, 4, 6, 8, 12, 16, 24, 32, 48, 64, 96, 128, 192, 256, 384, 512] ∧
  (∀ (levels : Pins) (s : State),
    let scanned (l : Line) : Bool := l.function = .tach && l.sensing = .contact && (s.ctl.op != .parked || l.wake)
    let pulse (i : Fin 24) : Bool := scanned (s.lines.get i) &&
      (s.lines.get i).sample = some (!(s.lines.get i).polarity) && levels.getLsbD i.val = (s.lines.get i).polarity
    (s.scan.timer = none → exec (.contactScan levels) s = .next s) ∧
    (s.scan.timer ≠ none →
      let t : State := { s with
        lines := s.lines.mapIdx fun i l =>
          if scanned l then { l with
            sample := some (levels.getLsbD i.val)
            count := if pulse i then min 65535 (l.count + 1) else l.count }
          else l
        scan := { s.scan with
          contacts := levels
          timer := match s.ctl.op with
            | .active => some 1
            | .quiet => some (2 * Config.scanTable.getD s.scan.quietIndex 0)
            | .parked =>
              if (List.finRange 24).any fun i => scanned (s.lines.get i) then
                some (2 * Config.scanTable.getD s.scan.parkIndex 0)
              else none
            | .retained => none }
        notices :=
          if (List.finRange 24).any fun i => pulse i && (s.lines.get i).count = 65535 then
            { s.notices with m := { s.notices.m with events := s.notices.m.events ||| 0x0200 } }
          else s.notices }
      exec (.contactScan levels) s = .next (if (List.finRange 24).any pulse then t.awake else t))) ∧
  (∀ s : State,
    (s.running = true → s.blink < 500 → exec .blinkHalfCycle s = .next { s with blink := 500 }) ∧
    (s.running = true → 500 ≤ s.blink → exec .blinkHalfCycle s = .next { s with blink := 0 }) ∧
    (s.ctl.op = .parked → exec .blinkHalfCycle s = .next s))

/-- The accrual of one element at an epoch close: residue, carry, wear, accumulator, slip count, UNFED flag and state
by R72 to R80, exactly (R82); an IDLE or SUSPECT record does not change (R71). Not for a tach line above 23, which no
rule gives a handoff (log 10), and with nothing outstanding before it (log 6). A reference line above 23 leaves the
slip part absent (log 19). The row is taken whatever the epoch has left (log 5). -/
def Obligations.EpochCloseAccrues : Prop :=
  ∀ (n : Fin 64) (k : Fin 24) (s : State), s.running = true → s.outstanding = false →
    let e := s.elements.get n
    e.tach = k.val →
    let l := s.lines.get k
    let pulses := if l.function = .tach then l.count else 0
    let rev64 := (pulses * e.ratio + e.residue) / e.ppr
    let weight := s.book.weights.data.getD (s.book.zones.get e.zone).effectiveClass 0
    let base := rev64 * weight * speedFactor s.bands rev64
    let slip := l.function = .tach ∧ ∃ j : Fin 24, e.reference = some j.val ∧ (s.lines.get j).function = .tach ∧
      8 ≤ (s.lines.get j).count * e.expected / 64 ∧
      (s.lines.get j).count * e.expected / 64 * e.tolerance <
        ((s.lines.get j).count * e.expected / 64 - pulses + (pulses - (s.lines.get j).count * e.expected / 64)) * 256
    let after (base slips : Nat) : Element :=
      let gained := (base + e.carry) / 16384
      let wear := min 4294967295 (e.wear + gained)
      let state := derivedState wear e.limit e.margin
      { e with
        residue := (pulses * e.ratio + e.residue) % e.ppr
        carry := (base + e.carry) % 16384
        wear := wear
        accumulator := min 16777215 (e.accumulator + gained)
        slipCount := slips
        state := state
        unfed := decide (l.function ≠ .tach)
        projection := if state = e.state then e.projection else projectionOf wear e.limit e.rate }
    ∃ t, exec .epochClose s = .next t ∧
      ((e.state = .idle ∨ e.state = .suspect) → t.elements.get n = e) ∧
      (e.state ≠ .idle → e.state ≠ .suspect → ¬slip →
        t.elements.get n = { after base e.slipCount with check := (after base e.slipCount).sum n }) ∧
      (e.state ≠ .idle → e.state ≠ .suspect → slip →
        let b := base * e.slipWeight / 16
        let c := min 65535 (e.slipCount + 1)
        t.elements.get n = { after b c with check := (after b c).sum n } ∧
          (∀ p, (t.notices.get p).events.getLsbD 3 = true))

/-- The speed factor is that of the first band whose bound rev64 does not exceed, and of band 7 past them all (R73). -/
def Obligations.SpeedBandChosen : Prop :=
  ∀ (bands : Table Band 8) (rev64 : Nat),
    (∀ i : Fin 8, rev64 ≤ (bands.get i).bound → (∀ j, j < i → (bands.get j).bound < rev64) →
      speedFactor bands rev64 = (bands.get i).factor) ∧
    ((∀ i, (bands.get i).bound < rev64) → speedFactor bands rev64 = (bands.get 7).factor) ∧
    speedFactor bands 0 = (bands.get 0).factor ∧
    (∀ (e : Element) (weight pulses : Nat) (slip : Bool), e.rev64 pulses = 0 → e.base bands weight pulses slip = 0)

/-- What else an epoch close does: counters restart (R12), reports count down and lapse, the zone's settings staying
(R47), each zone sum grows by the wear its elements gained, floor((base + F) / 16384) each (R32, R78, R79), the due
list is in order, PLAN raised exactly if its sequence changed (R98), WORN exactly on entry to WORN (R58), SLIP exactly
on a slip epoch of an element (R77), the window counts the close (R29), a new epoch begins (R24), and a HELD zone in
which an element turned has a motion report (R81), outstanding until it is taken (log 6). Weights, bands, k, H, the
history mode and ring, markers, tickets, holds, log, ports, pins and clocks stay, the phase of the 1 ms base among them
(log 23). The row is taken whatever the epoch has left (log 5). Not for a tach line above 23 (log 10), and with nothing
outstanding before it (log 6); a reference line above 23 leaves the slip part absent (log 19). -/
def Obligations.EpochCloseCounts : Prop :=
  ∀ s : State, s.running = true → s.outstanding = false → (∀ n, (s.elements.get n).tach ≤ 23) →
    let slips (n : Fin 64) : Prop := ∃ k j : Fin 24,
      let e := s.elements.get n
      let expected := (s.lines.get j).count * e.expected / 64
      let pulses := (s.lines.get k).count
      e.tach = k.val ∧ e.reference = some j.val ∧ (s.lines.get k).function = .tach ∧
        (s.lines.get j).function = .tach ∧ 8 ≤ expected ∧
        expected * e.tolerance < (expected - pulses + (pulses - expected)) * 256
    ∃ t, exec .epochClose s = .next t ∧
      (∀ i, t.lines.get i = { s.lines.get i with count := 0 }) ∧
      (∀ z side, ((t.book.zones.get z).report side) =
        let x := (s.book.zones.get z).report side
        if x.lapsed then x else if x.hold ≤ 1 then ⟨x.cls, 0, true⟩ else ⟨x.cls, x.hold - 1, false⟩) ∧
      (∀ z, (t.book.zones.get z).owner = (s.book.zones.get z).owner ∧
        (t.book.zones.get z).fallback = (s.book.zones.get z).fallback ∧
        (t.book.zones.get z).holdTime = (s.book.zones.get z).holdTime) ∧
      (∀ gained : Fin 64 → Nat, (∀ (n : Fin 64) (k : Fin 24), (s.elements.get n).tach = k.val →
          let e := s.elements.get n
          let l := s.lines.get k
          let pulses := if l.function = .tach then l.count else 0
          let rev64 := (pulses * e.ratio + e.residue) / e.ppr
          let weight := s.book.weights.data.getD (s.book.zones.get e.zone).effectiveClass 0
          let base := rev64 * weight * speedFactor s.bands rev64
          (e.state = .idle ∨ e.state = .suspect → gained n = 0) ∧
          (e.state ≠ .idle → e.state ≠ .suspect → ¬slips n → gained n = (base + e.carry) / 16384) ∧
          (e.state ≠ .idle → e.state ≠ .suspect → slips n →
            gained n = (base * e.slipWeight / 16 + e.carry) / 16384)) →
        ∀ z, t.history.sums.get z = min 16777215 (s.history.sums.get z +
          (((List.finRange 64).filter fun n => (s.elements.get n).zone = z).map gained).sum)) ∧
      t.plan.due = dueListOf t.elements s.plan.horizon ∧ t.plan.shift = s.plan.shift ∧
      t.plan.horizon = s.plan.horizon ∧ t.history.mode = s.history.mode ∧
      t.plan.generation = (if t.plan.due = s.plan.due then s.plan.generation else (s.plan.generation + 1) % 65536) ∧
      t.window = { s.window with remaining := s.window.remaining - 1 } ∧ t.pacer = ⟨s.pacer.divider, 0⟩ ∧
      (∀ z, t.tickets.reports.get z = true ↔ (s.tickets.holds.get z).state = .held ∧
        ∃ n k, (s.elements.get n).zone = z ∧ (s.elements.get n).state ≠ .idle ∧ (s.elements.get n).state ≠ .suspect ∧
          (s.elements.get n).tach = k.val ∧ (s.lines.get k).function = .tach ∧ 0 < (s.lines.get k).count) ∧
      (∀ p,
        let old := (s.notices.get p).events
        let new := (t.notices.get p).events
        (new.getLsbD 0 = true ↔ old.getLsbD 0 = true ∨ ∃ n, (s.elements.get n).state ≠ .idle ∧
          (s.elements.get n).state ≠ .suspect ∧ (s.elements.get n).state ≠ .worn ∧ (t.elements.get n).state = .worn) ∧
        (new.getLsbD 2 = true ↔ old.getLsbD 2 = true ∨ t.plan.due ≠ s.plan.due) ∧
        (new.getLsbD 3 = true ↔ old.getLsbD 3 = true ∨ ∃ n, (s.elements.get n).state ≠ .idle ∧
          (s.elements.get n).state ≠ .suspect ∧ slips n) ∧
        old ||| 0x000D = new ||| 0x000D ∧ (t.notices.get p).mask = (s.notices.get p).mask) ∧
      t.history.ring = s.history.ring ∧ t.history.markers = s.history.markers ∧ t.book.weights = s.book.weights ∧
      t.bands = s.bands ∧ t.tickets = { s.tickets with reports := t.tickets.reports } ∧ t.log = s.log ∧
      t.ports = s.ports ∧ t.ctl = s.ctl ∧ t.pins = s.pins ∧ t.scan = s.scan ∧ t.blink = s.blink ∧ t.half = s.half

/-- A window end that is due: Δ is A, which restarts at 0; R is seeded at 16Δ (R88) or moves toward it by the floor of
the distance over 2^k (R89); T is recomputed (R92); the due list is in order, PLAN raised if its sequence changed
(R98); a record with the sums and the markers joins the ring, the oldest of 48 dropped (R34), and cursors move as R35
and R36 say; sums and markers start afresh; the next window is loaded with E (R29, R30). None due: no change (log 7).
-/
def Obligations.WindowEndFormsRates : Prop :=
  ∀ s : State, s.running = true →
    (s.window.remaining ≠ 0 → exec .windowEnd s = .next s) ∧
    (s.window.remaining = 0 →
      let seq := (s.window.seq + 1) % 4294967296
      ∃ t, exec .windowEnd s = .next t ∧
        (∀ n,
          let e := s.elements.get n
          let rate := if e.seeded = false then 16 * e.accumulator
            else if e.rate ≤ 16 * e.accumulator then e.rate + (16 * e.accumulator - e.rate) / 2 ^ s.plan.shift
            else e.rate - (e.rate - 16 * e.accumulator) / 2 ^ s.plan.shift
          (e.state = .idle ∨ e.state = .suspect → t.elements.get n = e) ∧
          (e.state ≠ .idle → e.state ≠ .suspect → t.elements.get n = { e with
            accumulator := 0
            rate := rate
            seeded := true
            projection := projectionOf e.wear e.limit rate })) ∧
        t.plan.due = dueListOf t.elements s.plan.horizon ∧
        t.plan.generation = (if t.plan.due = s.plan.due then s.plan.generation else (s.plan.generation + 1) % 65536) ∧
        t.notices = (if t.plan.due = s.plan.due then s.notices else (s.noticed 0x0004).notices) ∧
        (∀ p, t.ports.get p = { s.ports.get p with
          history := match (s.ports.get p).history with
            | .past => .on seq 0
            | .on q f =>
              if 48 ≤ s.history.ring.length ∧ s.history.ring.head?.map WindowRecord.seq = some q then
                .on ((t.history.ring.head?.map WindowRecord.seq).getD seq) 0
              else .on q f }) ∧
        t.history.ring = (if s.history.ring.length < 48 then s.history.ring else s.history.ring.tail) ++
          [⟨seq, s.window.loaded, s.history.sums, s.history.markers⟩] ∧
        (∀ z, t.history.sums.get z = 0) ∧ t.history.markers = ⟨false, false, false, false, false⟩ ∧
        t.history.mode = s.history.mode ∧ t.window = ⟨s.window.length, s.window.length, s.window.length, seq⟩ ∧
        t.lines = s.lines ∧ t.book = s.book ∧ t.bands = s.bands ∧ t.tickets = s.tickets ∧ t.log = s.log ∧
        t.ctl = s.ctl ∧ t.pins = s.pins ∧ t.pacer = s.pacer)

/-! ## Starts and supply -/

/-- A SOFT start by SOFT-RESET and a WARM start out of RETAINED with the marker valid keep the retained domain and
apply the changes of R170: the check (R84), the due list against the one before it (R105), tickets and holds (R132),
reports (R52), the START marker (R33), counters and levels (R22), the ports (R178, R179), START alone pending (R154). A
motion report outstanding is dropped or, at SOFT-RESET, not there (log 6), and the half millisecond restarts (log 23).
-/
def Obligations.WarmAndSoftStart : Prop :=
  ∀ s : State,
    let start (r : State) (kind : StartKind) : State :=
      let elements := r.elements.mapIdx fun n e =>
        if e.state ≠ .idle ∧ e.sum n ≠ e.check then { e with state := .suspect } else e
      let due := dueListOf elements r.plan.horizon
      { r with
        elements := elements
        plan := { r.plan with
          due := due
          generation := if due = dueListOf r.elements r.plan.horizon then r.plan.generation
            else (r.plan.generation + 1) % 65536 }
        tickets := { r.tickets with
          table := r.tickets.table.map fun t : Ticket =>
            if t.state = TicketState.awaiting ∨ t.state = TicketState.working then
              { t with
                state := .stalled
                timer := 0
                accessSeen := false }
            else t
          holds := .ofFn fun _ => ⟨.free, false, false, 0⟩
          reports := .ofFn fun _ => false }
        book := { r.book with zones := r.book.zones.mapIdx fun _ b => { b with
          reportA := ⟨b.reportA.cls, 0, true⟩
          reportB := ⟨b.reportB.cls, 0, true⟩ } }
        history := { r.history with markers := { r.history.markers with start := true } }
        ports := r.ports.map fun i : Interface =>
          ⟨i.select, 0, i.select, 0, ⟨.start, 0x00, BitVec.ofNat 32 kind.code⟩, .past, .past⟩
        notices := .all ⟨0x2000, 0xFFFF⟩
        lines := r.lines.mapIdx fun _ l => { l with
          count := 0
          filtered := none
          sample := none }
        pins := { r.pins with
          held := .ofFn fun _ => none
          frozen := false }
        scan := { r.scan with timer := some 1 }
        blink := 0
        pacer := { r.pacer with ms := 0 }
        half := false
        ctl := { r.ctl with
          op := .active
          votes := .all .run
          startKind := kind
          valid := true } }
    (s.Taking .m → (s.received .m).outstanding = false →
      exec (.softReset .m) s = .next (start (s.received .m) .soft)) ∧
    (s.ctl.op = .retained → s.ctl.valid = true → exec (.retainedExit true true) s =
      .next (start { s with ctl := { s.ctl with
        vmainLow := false
        rstnLow := false } } .warm))

/-- A COLD start, by CLEAR-ALL and out of RETAINED with the marker lost, leaves the device as reset does (R169, R171).
What is outside it stays: chip selects, whose frames become void (R178), pin levels, what the supply monitor sees of
VMAIN, VKEEP and RSTN, and the queue (log 14, log 15). -/
def Obligations.ColdStart : Prop :=
  ∀ s : State,
    let start (r : State) : State := { State.reset with
      ports := r.ports.map fun i : Interface =>
        ⟨i.select, 0, i.select, 0, ⟨.start, 0x00, 0⟩, .past, .past⟩
      scan := { State.reset.scan with contacts := r.scan.contacts }
      pins := { State.reset.pins with input := r.pins.input }
      ctl := { State.reset.ctl with
        vmainLow := r.ctl.vmainLow
        vkeepLow := r.ctl.vkeepLow
        rstnLow := r.ctl.rstnLow }
      fresh := r.fresh
      pending := r.pending }
    (s.Taking .m → exec (.clearAll .m) s = .next (start (s.received .m))) ∧
    (s.ctl.op = .retained → s.ctl.valid = false → exec (.retainedExit true true) s =
      .next (start { s with ctl := { s.ctl with
        vmainLow := false
        rstnLow := false } }))

/-- A fall of VMAIN or a low RSTN takes the device into RETAINED: what lives outside the retained domain is discarded
(each item then at one value, log 12), the rest kept as the table of R166 lists it, every line record with its levels
(R21, R27, R165, R166). The marker becomes lost with VKEEP below its range while VMAIN is below its trip level,
whichever fell last; a loss of VKEEP with VMAIN above it is kept and has no effect until VMAIN falls (R165; what the
monitor keeps, and that VKEEP's return is given by the same row, is log 14). RETAINED holds until VMAIN is above its
trip level and RSTN high (R167). A disturbance of a record in RETAINED changes its tach line, G, slip part, L, M, wear
and check word and no other field (R84; its widths and when one is taken are log 11). Nothing stands outstanding before
a loss (log 6). -/
def Obligations.SupplyLossAndEvents : Prop :=
  (∀ (cause : LossCause) (s : State), s.ctl.op ≠ .retained → s.outstanding = false →
    ∃ t, exec (.supplyLoss cause) s = .next t ∧
      t.ctl.op = .retained ∧ t.ctl.fittedA = s.ctl.fittedA ∧ t.ctl.fittedB = s.ctl.fittedB ∧
      t.ctl.vkeepLow = s.ctl.vkeepLow ∧
      (cause = .vmain → t.ctl.vmainLow = true ∧ t.ctl.rstnLow = s.ctl.rstnLow ∧
        t.ctl.valid = (s.ctl.valid && !s.ctl.vkeepLow)) ∧
      (cause = .rstn → t.ctl.rstnLow = true ∧ t.ctl.vmainLow = s.ctl.vmainLow ∧ t.ctl.valid = s.ctl.valid) ∧
      (∀ i, t.lines.get i = { s.lines.get i with count := 0 }) ∧
      (∀ i, t.pinDrive i = none ∧ t.pinPullUp i = false) ∧ t.pins.frozen = false ∧
      t.scan = { s.scan with timer := none } ∧ t.pacer = { s.pacer with ms := 0 } ∧ t.window = s.window ∧
      t.history = s.history ∧ t.book = s.book ∧ t.bands = s.bands ∧ t.elements = s.elements ∧
      t.plan = { s.plan with due := [] } ∧ t.log = s.log ∧ t.tickets = { s.tickets with
        table := s.tickets.table.map fun u : Ticket => { u with timer := 0 } } ∧
      (∀ p, t.pendingSet p = 0 ∧ t.attention p = false ∧ (t.ports.get p).void = false ∧
        (t.ports.get p).history = .past ∧ (t.ports.get p).log = .past)) ∧
  (∀ s : State,
    (s.ctl.op = .retained →
      exec (.supplyLoss .vmain) s = .next { s with ctl := { s.ctl with
        vmainLow := true
        valid := s.ctl.valid && !s.ctl.vkeepLow } } ∧
      exec (.supplyLoss .rstn) s = .next { s with ctl := { s.ctl with rstnLow := true } }) ∧
    (∀ below, exec (.keepSupplyLoss below) s = .next { s with ctl := { s.ctl with
      vkeepLow := below
      valid := s.ctl.valid && !(s.ctl.vmainLow && below) } }) ∧
    (∀ vmain rstn, s.ctl.op = .retained → (vmain = false ∨ rstn = false) →
      exec (.retainedExit vmain rstn) s = .next { s with ctl := { s.ctl with
        vmainLow := !vmain
        rstnLow := !rstn
        valid := s.ctl.valid && (vmain || !s.ctl.vkeepLow) } }) ∧
    (∀ (n : Fin 64) (d : Disturbance), s.ctl.op = .retained → s.ctl.valid = true →
      let e' : Element := { s.elements.get n with
        tach := d.tach.toNat
        ratio := d.ratio.toNat
        reference := if d.reference = 255 then none else some d.reference.toNat
        expected := d.expected.toNat
        tolerance := d.tolerance.toNat
        slipWeight := d.slipWeight.toNat
        limit := d.limit.toNat
        margin := d.margin.toNat
        wear := d.wear.toNat
        check := d.check.toNat }
      (e'.state = .idle ∨ e'.sum n ≠ e'.check) →
        exec (.retainedDisturbance n d) s = .next { s with elements := s.elements.set n e' }))
end

