-- ==== Sys2Proof/Laws/Table.lean ====
section
/-! SUPPORT. Reading what was written in a table and in the records of the three ports. -/

namespace Sys2Proof.Machine

variable {α β : Type} {n : Nat}

@[simp] theorem Table.get_set_same (t : Table α n) (i : Fin n) (a : α) : (t.set i a).get i = a := by
  simp [Table.get, Table.set]

theorem Table.get_set_other (t : Table α n) {i j : Fin n} (a : α) (h : j ≠ i) : (t.set i a).get j = t.get j := by
  have : i.val ≠ j.val := fun e => h (Fin.ext e.symm)
  simp [Table.get, Table.set, this]

theorem Table.get_set (t : Table α n) (i j : Fin n) (a : α) :
    (t.set i a).get j = if j = i then a else t.get j := by
  by_cases h : j = i
  · simp [h]
  · simp [h, Table.get_set_other t a h]

@[simp] theorem Table.get_ofFn (f : Fin n → α) (i : Fin n) : (Table.ofFn f).get i = f i := by
  simp [Table.get, Table.ofFn]

@[simp] theorem Table.get_mapIdx (t : Table α n) (f : Fin n → α → β) (i : Fin n) :
    (t.mapIdx f).get i = f i (t.get i) := by simp [Table.mapIdx]

theorem Table.get_modify (t : Table α n) (i j : Fin n) (f : α → α) :
    (t.modify i f).get j = if j = i then f (t.get j) else t.get j := by
  by_cases h : j = i <;> simp [Table.modify, Table.get_set, h]

@[simp] theorem Table.get_modify_same (t : Table α n) (i : Fin n) (f : α → α) :
    (t.modify i f).get i = f (t.get i) := by simp [Table.modify]

/-- Two tables with the same records are the same. -/
theorem Table.ext_get {t u : Table α n} (h : ∀ i, t.get i = u.get i) : t = u := by
  cases t with
  | mk a ha =>
    cases u with
    | mk b hb =>
      have : a = b := List.ext_getElem (by rw [ha, hb]) fun k h1 _ => h ⟨k, ha ▸ h1⟩
      simp [this]

/-- Writing back the record that stands there leaves the table. -/
@[simp] theorem Table.set_get_self (t : Table α n) (i : Fin n) : t.set i (t.get i) = t :=
  Table.ext_get fun j => by by_cases h : j = i <;> simp [Table.get_set, h]

/-- A property holds of some record of the table exactly when it holds of the record some number names. -/
theorem Table.any_iff (t : Table α n) (f : α → Bool) : t.any f = true ↔ ∃ i, f (t.get i) = true := by
  simp only [Table.any, List.any_eq_true]
  constructor
  · rintro ⟨a, ha, hf⟩
    obtain ⟨k, hk, rfl⟩ := List.getElem_of_mem ha
    exact ⟨⟨k, by rw [← t.size]; exact hk⟩, hf⟩
  · rintro ⟨i, hf⟩
    exact ⟨t.get i, List.getElem_mem _, hf⟩

@[simp] theorem PerPort.get_set_same (r : PerPort α) (p : Port) (x : α) : (r.set p x).get p = x := by
  cases p <;> rfl

theorem PerPort.get_set_other (r : PerPort α) {p q : Port} (x : α) (h : q ≠ p) : (r.set p x).get q = r.get q := by
  cases p <;> cases q <;> first | rfl | exact absurd rfl h

theorem PerPort.get_set (r : PerPort α) (p q : Port) (x : α) :
    (r.set p x).get q = if q = p then x else r.get q := by
  cases p <;> cases q <;> rfl

@[simp] theorem PerPort.set_set (r : PerPort α) (p : Port) (x y : α) : (r.set p x).set p y = r.set p y := by
  cases p <;> rfl

@[simp] theorem PerPort.set_get_self (r : PerPort α) (p : Port) : r.set p (r.get p) = r := by
  cases p <;> rfl

@[simp] theorem PerPort.get_modify_same (r : PerPort α) (p : Port) (f : α → α) :
    (r.modify p f).get p = f (r.get p) := by simp [PerPort.modify]

theorem PerPort.get_modify (r : PerPort α) (p q : Port) (f : α → α) :
    (r.modify p f).get q = if q = p then f (r.get q) else r.get q := by
  cases p <;> cases q <;> rfl

@[simp] theorem PerPort.get_map (r : PerPort α) (f : α → β) (p : Port) : (r.map f).get p = f (r.get p) := by
  cases p <;> rfl

@[simp] theorem PerPort.get_all (x : α) (p : Port) : (PerPort.all x).get p = x := by
  cases p <;> rfl

/-- Two families of records with the same record at each port are the same. -/
theorem PerPort.ext_get {r u : PerPort α} (h : ∀ p, r.get p = u.get p) : r = u := by
  have ha := h .a
  have hb := h .b
  have hm := h .m
  cases r
  cases u
  simp only [PerPort.get] at ha hb hm
  simp [ha, hb, hm]

end Sys2Proof.Machine
end

