-- ==== Sys2Proof/Laws/Frame.lean ====
section
/-! SUPPORT. The parts of a frame read back from it (R181), and what a port command comes to in each of the three
conditions its port can be in: the whole of `State.frameCommand`, said once. -/

namespace Sys2Proof

@[simp] theorem codeOf_frameWord (code sel : Byte) (val : Word) : codeOf (frameWord code sel val) = code := by
  apply BitVec.eq_of_getLsbD_eq
  intro i hi
  simp only [codeOf, frameWord, BitVec.getLsbD_extractLsb', BitVec.getLsbD_append, hi, decide_true, Bool.true_and]
  rw [if_neg (by omega), if_neg (by omega)]
  congr 1
  omega

@[simp] theorem selectorOf_frameWord (code sel : Byte) (val : Word) :
    selectorOf (frameWord code sel val) = sel := by
  apply BitVec.eq_of_getLsbD_eq
  intro i hi
  simp only [selectorOf, frameWord, BitVec.getLsbD_extractLsb', BitVec.getLsbD_append, hi, decide_true, Bool.true_and]
  rw [if_neg (by omega), if_pos (by omega)]
  congr 1
  omega

@[simp] theorem valueOf_frameWord (code sel : Byte) (val : Word) : valueOf (frameWord code sel val) = val := by
  apply BitVec.eq_of_getLsbD_eq
  intro i hi
  simp only [valueOf, frameWord, BitVec.getLsbD_extractLsb', BitVec.getLsbD_append, hi, decide_true, Bool.true_and]
  rw [if_pos (by omega)]
  simp

@[simp] theorem indexOf_dividedValue (idx : Byte) (fv : FieldValue) : indexOf (dividedValue idx fv) = idx := by
  apply BitVec.eq_of_getLsbD_eq
  intro i hi
  simp only [indexOf, dividedValue, BitVec.getLsbD_extractLsb', BitVec.getLsbD_append, hi, decide_true, Bool.true_and]
  rw [if_neg (by omega)]
  congr 1
  omega

@[simp] theorem fieldValueOf_dividedValue (idx : Byte) (fv : FieldValue) :
    fieldValueOf (dividedValue idx fv) = fv := by
  apply BitVec.eq_of_getLsbD_eq
  intro i hi
  simp only [fieldValueOf, dividedValue, BitVec.getLsbD_extractLsb', BitVec.getLsbD_append, hi, decide_true,
    Bool.true_and]
  rw [if_pos (by omega)]
  simp

namespace Machine

/-- A frame that begins leaves the port's void flag. -/
@[simp] theorem beginFrame_void (s : State) (p q : Port) :
    ((s.beginFrame p).ports.get q).void = (s.ports.get q).void := by
  unfold State.beginFrame State.mapPort State.wakeIfParked State.wake State.restartScan State.raiseAll
  split
  · rfl
  · split
    · cases p <;> cases q <;> rfl
    · split <;> cases p <;> cases q <;> rfl

/-- In RETAINED a port command releases chip select and does nothing else (R166). -/
theorem frameCommand_retained {s : State} {p : Port} (code : Byte) (effect : State → Taken)
    (h : s.ctl.op = .retained) :
    s.frameCommand p code effect = s.mapPort p fun i => { i with select := false } := by
  simp [State.frameCommand, h]

/-- On a port whose void flag is set the frame is discarded, its 48 bits counted (R173, R178). -/
theorem frameCommand_void {s : State} {p : Port} (code : Byte) (effect : State → Taken)
    (h : s.ctl.op ≠ .retained) (hv : (s.ports.get p).void = true) :
    s.frameCommand p code effect = (s.beginFrame p).discardVoid p 48 := by
  simp [State.frameCommand, h, hv]

/-- Otherwise the command is taken on the device as its frame finds it (R174). -/
theorem frameCommand_taking {s : State} {p : Port} (code : Byte) (effect : State → Taken) (h : s.Taking p) :
    s.frameCommand p code effect = (s.received p).takeCommand p code effect := by
  simp [State.frameCommand, State.received, h.1, h.2.1]

/-- A command of a permitted sender that replies leaves its state with the reply staged (R175, R179). -/
theorem takeCommand_replied {s t : State} {p : Port} {code : Byte} {effect : State → Taken} {who : Senders}
    {r : Result} {data : Word} (hc : sendersOf code = some who) (hw : who.permit p = true)
    (he : effect s = ⟨t, some ⟨r, data⟩⟩) :
    s.takeCommand p code effect =
      { t with ports := t.ports.set p { t.ports.get p with staged := ⟨r, code, data⟩ } } := by
  simp [State.takeCommand, hc, hw, he, State.stage, State.mapPort, PerPort.modify]

/-- A command taken, permitted, and answered with a number: the form the statements about a command have. -/
theorem frameCommand_answered {s t : State} {p : Port} {code : Byte} {effect : State → Taken} {who : Senders}
    {r : Result} {data : Nat} (h : s.Taking p) (hc : sendersOf code = some who) (hw : who.permit p = true)
    (he : effect (s.received p) = ⟨t, some ⟨r, BitVec.ofNat 32 data⟩⟩) :
    s.frameCommand p code effect = t.answering p code r data := by
  rw [frameCommand_taking code effect h, takeCommand_replied hc hw he]
  rfl

/-- A sender that R180 does not permit is answered NOT-PERMITTED and nothing else is done (R179). -/
theorem takeCommand_notPermitted {s : State} {p : Port} {code : Byte} (effect : State → Taken) {who : Senders}
    (hc : sendersOf code = some who) (hw : who.permit p = false) :
    s.takeCommand p code effect = s.answering p code .notPermitted 0 := by
  simp [State.takeCommand, hc, hw, State.stage, State.mapPort, PerPort.modify, State.answering]

/-- A code that names no command is answered UNKNOWN and nothing else is done (R179). -/
theorem takeCommand_unknown {s : State} {p : Port} {code : Byte} (effect : State → Taken)
    (hc : sendersOf code = none) : s.takeCommand p code effect = s.answering p code .unknown 0 := by
  simp [State.takeCommand, hc, State.stage, State.mapPort, PerPort.modify, State.answering]

/-- The device a command finds is not RETAINED (R163, R166). -/
theorem received_op {s : State} {p : Port} (h : s.Taking p) :
    (s.received p).ctl.op = if s.ctl.op = .parked then .active else s.ctl.op := by
  obtain ⟨h1, -, h3⟩ := h
  unfold State.received State.endFrame State.beginFrame State.mapPort State.wakeIfParked State.wake State.restartScan
    State.raiseAll
  by_cases hp : s.ctl.op = .parked
  · simp [hp, h3 hp]
  · simp only [h1, hp, if_false]
    split <;> rfl

/-- What a command finds the device running in: ACTIVE or QUIET. -/
theorem received_running {s : State} {p : Port} (h : s.Taking p) : (s.received p).running = true := by
  have h1 := h.1
  simp only [State.running, received_op h]
  cases ho : s.ctl.op <;> simp_all

end Machine
end Sys2Proof
end

