-- ==== Sys2Proof/Laws/State.lean ====
section
/-! SUPPORT. What each named update of the state leaves in each field: one lemma per field and update, each true by
unfolding, so that no later proof unfolds a record update. -/

namespace Sys2Proof.Machine

variable (s : State)

/-! `State.raiseAt` -/

@[simp] theorem State.raiseAt_ports (n : Notice) (p : Port) : (s.raiseAt n p).ports = s.ports := rfl
@[simp] theorem State.raiseAt_notices (n : Notice) (p : Port) :
    (s.raiseAt n p).notices = s.notices.modify p fun b => { b with events := b.events ||| n.bit } := rfl
@[simp] theorem State.raiseAt_lines (n : Notice) (p : Port) : (s.raiseAt n p).lines = s.lines := rfl
@[simp] theorem State.raiseAt_scan (n : Notice) (p : Port) : (s.raiseAt n p).scan = s.scan := rfl
@[simp] theorem State.raiseAt_pins (n : Notice) (p : Port) : (s.raiseAt n p).pins = s.pins := rfl
@[simp] theorem State.raiseAt_blink (n : Notice) (p : Port) : (s.raiseAt n p).blink = s.blink := rfl
@[simp] theorem State.raiseAt_pacer (n : Notice) (p : Port) : (s.raiseAt n p).pacer = s.pacer := rfl
@[simp] theorem State.raiseAt_window (n : Notice) (p : Port) : (s.raiseAt n p).window = s.window := rfl
@[simp] theorem State.raiseAt_history (n : Notice) (p : Port) : (s.raiseAt n p).history = s.history := rfl
@[simp] theorem State.raiseAt_book (n : Notice) (p : Port) : (s.raiseAt n p).book = s.book := rfl
@[simp] theorem State.raiseAt_bands (n : Notice) (p : Port) : (s.raiseAt n p).bands = s.bands := rfl
@[simp] theorem State.raiseAt_elements (n : Notice) (p : Port) : (s.raiseAt n p).elements = s.elements := rfl
@[simp] theorem State.raiseAt_plan (n : Notice) (p : Port) : (s.raiseAt n p).plan = s.plan := rfl
@[simp] theorem State.raiseAt_tickets (n : Notice) (p : Port) : (s.raiseAt n p).tickets = s.tickets := rfl
@[simp] theorem State.raiseAt_log (n : Notice) (p : Port) : (s.raiseAt n p).log = s.log := rfl
@[simp] theorem State.raiseAt_ctl (n : Notice) (p : Port) : (s.raiseAt n p).ctl = s.ctl := rfl
@[simp] theorem State.raiseAt_half (n : Notice) (p : Port) : (s.raiseAt n p).half = s.half := rfl
@[simp] theorem State.raiseAt_fresh (n : Notice) (p : Port) : (s.raiseAt n p).fresh = s.fresh := rfl
@[simp] theorem State.raiseAt_pending (n : Notice) (p : Port) : (s.raiseAt n p).pending = s.pending := rfl

/-! `State.raiseAll` -/

@[simp] theorem State.raiseAll_ports (n : Notice) : (s.raiseAll n).ports = s.ports := rfl
@[simp] theorem State.raiseAll_notices (n : Notice) :
    (s.raiseAll n).notices = s.notices.map fun b => { b with events := b.events ||| n.bit } := rfl
@[simp] theorem State.raiseAll_lines (n : Notice) : (s.raiseAll n).lines = s.lines := rfl
@[simp] theorem State.raiseAll_scan (n : Notice) : (s.raiseAll n).scan = s.scan := rfl
@[simp] theorem State.raiseAll_pins (n : Notice) : (s.raiseAll n).pins = s.pins := rfl
@[simp] theorem State.raiseAll_blink (n : Notice) : (s.raiseAll n).blink = s.blink := rfl
@[simp] theorem State.raiseAll_pacer (n : Notice) : (s.raiseAll n).pacer = s.pacer := rfl
@[simp] theorem State.raiseAll_window (n : Notice) : (s.raiseAll n).window = s.window := rfl
@[simp] theorem State.raiseAll_history (n : Notice) : (s.raiseAll n).history = s.history := rfl
@[simp] theorem State.raiseAll_book (n : Notice) : (s.raiseAll n).book = s.book := rfl
@[simp] theorem State.raiseAll_bands (n : Notice) : (s.raiseAll n).bands = s.bands := rfl
@[simp] theorem State.raiseAll_elements (n : Notice) : (s.raiseAll n).elements = s.elements := rfl
@[simp] theorem State.raiseAll_plan (n : Notice) : (s.raiseAll n).plan = s.plan := rfl
@[simp] theorem State.raiseAll_tickets (n : Notice) : (s.raiseAll n).tickets = s.tickets := rfl
@[simp] theorem State.raiseAll_log (n : Notice) : (s.raiseAll n).log = s.log := rfl
@[simp] theorem State.raiseAll_ctl (n : Notice) : (s.raiseAll n).ctl = s.ctl := rfl
@[simp] theorem State.raiseAll_half (n : Notice) : (s.raiseAll n).half = s.half := rfl
@[simp] theorem State.raiseAll_fresh (n : Notice) : (s.raiseAll n).fresh = s.fresh := rfl
@[simp] theorem State.raiseAll_pending (n : Notice) : (s.raiseAll n).pending = s.pending := rfl

/-! `State.noticed` -/

@[simp] theorem State.noticed_ports (set : NoticeSet) : (s.noticed set).ports = s.ports := rfl
@[simp] theorem State.noticed_notices (set : NoticeSet) :
    (s.noticed set).notices = s.notices.map fun b => { b with events := b.events ||| set } := rfl
@[simp] theorem State.noticed_lines (set : NoticeSet) : (s.noticed set).lines = s.lines := rfl
@[simp] theorem State.noticed_scan (set : NoticeSet) : (s.noticed set).scan = s.scan := rfl
@[simp] theorem State.noticed_pins (set : NoticeSet) : (s.noticed set).pins = s.pins := rfl
@[simp] theorem State.noticed_blink (set : NoticeSet) : (s.noticed set).blink = s.blink := rfl
@[simp] theorem State.noticed_pacer (set : NoticeSet) : (s.noticed set).pacer = s.pacer := rfl
@[simp] theorem State.noticed_window (set : NoticeSet) : (s.noticed set).window = s.window := rfl
@[simp] theorem State.noticed_history (set : NoticeSet) : (s.noticed set).history = s.history := rfl
@[simp] theorem State.noticed_book (set : NoticeSet) : (s.noticed set).book = s.book := rfl
@[simp] theorem State.noticed_bands (set : NoticeSet) : (s.noticed set).bands = s.bands := rfl
@[simp] theorem State.noticed_elements (set : NoticeSet) : (s.noticed set).elements = s.elements := rfl
@[simp] theorem State.noticed_plan (set : NoticeSet) : (s.noticed set).plan = s.plan := rfl
@[simp] theorem State.noticed_tickets (set : NoticeSet) : (s.noticed set).tickets = s.tickets := rfl
@[simp] theorem State.noticed_log (set : NoticeSet) : (s.noticed set).log = s.log := rfl
@[simp] theorem State.noticed_ctl (set : NoticeSet) : (s.noticed set).ctl = s.ctl := rfl
@[simp] theorem State.noticed_half (set : NoticeSet) : (s.noticed set).half = s.half := rfl
@[simp] theorem State.noticed_fresh (set : NoticeSet) : (s.noticed set).fresh = s.fresh := rfl
@[simp] theorem State.noticed_pending (set : NoticeSet) : (s.noticed set).pending = s.pending := rfl

/-! `State.mapZoneTickets` -/

@[simp] theorem State.mapZoneTickets_ports (z : Fin 8) (f : Ticket → Ticket) :
    (s.mapZoneTickets z f).ports = s.ports := rfl
@[simp] theorem State.mapZoneTickets_notices (z : Fin 8) (f : Ticket → Ticket) :
    (s.mapZoneTickets z f).notices = s.notices := rfl
@[simp] theorem State.mapZoneTickets_lines (z : Fin 8) (f : Ticket → Ticket) :
    (s.mapZoneTickets z f).lines = s.lines := rfl
@[simp] theorem State.mapZoneTickets_scan (z : Fin 8) (f : Ticket → Ticket) :
    (s.mapZoneTickets z f).scan = s.scan := rfl
@[simp] theorem State.mapZoneTickets_pins (z : Fin 8) (f : Ticket → Ticket) :
    (s.mapZoneTickets z f).pins = s.pins := rfl
@[simp] theorem State.mapZoneTickets_blink (z : Fin 8) (f : Ticket → Ticket) :
    (s.mapZoneTickets z f).blink = s.blink := rfl
@[simp] theorem State.mapZoneTickets_pacer (z : Fin 8) (f : Ticket → Ticket) :
    (s.mapZoneTickets z f).pacer = s.pacer := rfl
@[simp] theorem State.mapZoneTickets_window (z : Fin 8) (f : Ticket → Ticket) :
    (s.mapZoneTickets z f).window = s.window := rfl
@[simp] theorem State.mapZoneTickets_history (z : Fin 8) (f : Ticket → Ticket) :
    (s.mapZoneTickets z f).history = s.history := rfl
@[simp] theorem State.mapZoneTickets_book (z : Fin 8) (f : Ticket → Ticket) :
    (s.mapZoneTickets z f).book = s.book := rfl
@[simp] theorem State.mapZoneTickets_bands (z : Fin 8) (f : Ticket → Ticket) :
    (s.mapZoneTickets z f).bands = s.bands := rfl
@[simp] theorem State.mapZoneTickets_elements (z : Fin 8) (f : Ticket → Ticket) :
    (s.mapZoneTickets z f).elements = s.elements := rfl
@[simp] theorem State.mapZoneTickets_plan (z : Fin 8) (f : Ticket → Ticket) :
    (s.mapZoneTickets z f).plan = s.plan := rfl
@[simp] theorem State.mapZoneTickets_tickets (z : Fin 8) (f : Ticket → Ticket) :
    (s.mapZoneTickets z f).tickets =
      { s.tickets with table := s.tickets.table.map fun t => if t.zone = z then f t else t } := rfl
@[simp] theorem State.mapZoneTickets_log (z : Fin 8) (f : Ticket → Ticket) : (s.mapZoneTickets z f).log = s.log := rfl
@[simp] theorem State.mapZoneTickets_ctl (z : Fin 8) (f : Ticket → Ticket) : (s.mapZoneTickets z f).ctl = s.ctl := rfl
@[simp] theorem State.mapZoneTickets_half (z : Fin 8) (f : Ticket → Ticket) :
    (s.mapZoneTickets z f).half = s.half := rfl
@[simp] theorem State.mapZoneTickets_fresh (z : Fin 8) (f : Ticket → Ticket) :
    (s.mapZoneTickets z f).fresh = s.fresh := rfl
@[simp] theorem State.mapZoneTickets_pending (z : Fin 8) (f : Ticket → Ticket) :
    (s.mapZoneTickets z f).pending = s.pending := rfl

/-! `State.mapTicket` -/

@[simp] theorem State.mapTicket_ports (n : Nat) (f : Ticket → Ticket) : (s.mapTicket n f).ports = s.ports := rfl
@[simp] theorem State.mapTicket_notices (n : Nat) (f : Ticket → Ticket) : (s.mapTicket n f).notices = s.notices := rfl
@[simp] theorem State.mapTicket_lines (n : Nat) (f : Ticket → Ticket) : (s.mapTicket n f).lines = s.lines := rfl
@[simp] theorem State.mapTicket_scan (n : Nat) (f : Ticket → Ticket) : (s.mapTicket n f).scan = s.scan := rfl
@[simp] theorem State.mapTicket_pins (n : Nat) (f : Ticket → Ticket) : (s.mapTicket n f).pins = s.pins := rfl
@[simp] theorem State.mapTicket_blink (n : Nat) (f : Ticket → Ticket) : (s.mapTicket n f).blink = s.blink := rfl
@[simp] theorem State.mapTicket_pacer (n : Nat) (f : Ticket → Ticket) : (s.mapTicket n f).pacer = s.pacer := rfl
@[simp] theorem State.mapTicket_window (n : Nat) (f : Ticket → Ticket) : (s.mapTicket n f).window = s.window := rfl
@[simp] theorem State.mapTicket_history (n : Nat) (f : Ticket → Ticket) : (s.mapTicket n f).history = s.history := rfl
@[simp] theorem State.mapTicket_book (n : Nat) (f : Ticket → Ticket) : (s.mapTicket n f).book = s.book := rfl
@[simp] theorem State.mapTicket_bands (n : Nat) (f : Ticket → Ticket) : (s.mapTicket n f).bands = s.bands := rfl
@[simp] theorem State.mapTicket_elements (n : Nat) (f : Ticket → Ticket) :
    (s.mapTicket n f).elements = s.elements := rfl
@[simp] theorem State.mapTicket_plan (n : Nat) (f : Ticket → Ticket) : (s.mapTicket n f).plan = s.plan := rfl
@[simp] theorem State.mapTicket_tickets (n : Nat) (f : Ticket → Ticket) :
    (s.mapTicket n f).tickets =
      { s.tickets with table := s.tickets.table.map fun t => if t.number = n then f t else t } := rfl
@[simp] theorem State.mapTicket_log (n : Nat) (f : Ticket → Ticket) : (s.mapTicket n f).log = s.log := rfl
@[simp] theorem State.mapTicket_ctl (n : Nat) (f : Ticket → Ticket) : (s.mapTicket n f).ctl = s.ctl := rfl
@[simp] theorem State.mapTicket_half (n : Nat) (f : Ticket → Ticket) : (s.mapTicket n f).half = s.half := rfl
@[simp] theorem State.mapTicket_fresh (n : Nat) (f : Ticket → Ticket) : (s.mapTicket n f).fresh = s.fresh := rfl
@[simp] theorem State.mapTicket_pending (n : Nat) (f : Ticket → Ticket) : (s.mapTicket n f).pending = s.pending := rfl

/-! `State.mapHold` -/

@[simp] theorem State.mapHold_ports (z : Fin 8) (f : HoldRecord → HoldRecord) : (s.mapHold z f).ports = s.ports := rfl
@[simp] theorem State.mapHold_notices (z : Fin 8) (f : HoldRecord → HoldRecord) :
    (s.mapHold z f).notices = s.notices := rfl
@[simp] theorem State.mapHold_lines (z : Fin 8) (f : HoldRecord → HoldRecord) : (s.mapHold z f).lines = s.lines := rfl
@[simp] theorem State.mapHold_scan (z : Fin 8) (f : HoldRecord → HoldRecord) : (s.mapHold z f).scan = s.scan := rfl
@[simp] theorem State.mapHold_pins (z : Fin 8) (f : HoldRecord → HoldRecord) : (s.mapHold z f).pins = s.pins := rfl
@[simp] theorem State.mapHold_blink (z : Fin 8) (f : HoldRecord → HoldRecord) : (s.mapHold z f).blink = s.blink := rfl
@[simp] theorem State.mapHold_pacer (z : Fin 8) (f : HoldRecord → HoldRecord) : (s.mapHold z f).pacer = s.pacer := rfl
@[simp] theorem State.mapHold_window (z : Fin 8) (f : HoldRecord → HoldRecord) :
    (s.mapHold z f).window = s.window := rfl
@[simp] theorem State.mapHold_history (z : Fin 8) (f : HoldRecord → HoldRecord) :
    (s.mapHold z f).history = s.history := rfl
@[simp] theorem State.mapHold_book (z : Fin 8) (f : HoldRecord → HoldRecord) : (s.mapHold z f).book = s.book := rfl
@[simp] theorem State.mapHold_bands (z : Fin 8) (f : HoldRecord → HoldRecord) : (s.mapHold z f).bands = s.bands := rfl
@[simp] theorem State.mapHold_elements (z : Fin 8) (f : HoldRecord → HoldRecord) :
    (s.mapHold z f).elements = s.elements := rfl
@[simp] theorem State.mapHold_plan (z : Fin 8) (f : HoldRecord → HoldRecord) : (s.mapHold z f).plan = s.plan := rfl
@[simp] theorem State.mapHold_tickets (z : Fin 8) (f : HoldRecord → HoldRecord) :
    (s.mapHold z f).tickets = { s.tickets with holds := s.tickets.holds.modify z f } := rfl
@[simp] theorem State.mapHold_log (z : Fin 8) (f : HoldRecord → HoldRecord) : (s.mapHold z f).log = s.log := rfl
@[simp] theorem State.mapHold_ctl (z : Fin 8) (f : HoldRecord → HoldRecord) : (s.mapHold z f).ctl = s.ctl := rfl
@[simp] theorem State.mapHold_half (z : Fin 8) (f : HoldRecord → HoldRecord) : (s.mapHold z f).half = s.half := rfl
@[simp] theorem State.mapHold_fresh (z : Fin 8) (f : HoldRecord → HoldRecord) : (s.mapHold z f).fresh = s.fresh := rfl
@[simp] theorem State.mapHold_pending (z : Fin 8) (f : HoldRecord → HoldRecord) :
    (s.mapHold z f).pending = s.pending := rfl

/-! `State.writeLine` -/

@[simp] theorem State.writeLine_ports (i : Fin 24) (l : Line) : (s.writeLine i l).ports = s.ports := rfl
@[simp] theorem State.writeLine_notices (i : Fin 24) (l : Line) : (s.writeLine i l).notices = s.notices := rfl
@[simp] theorem State.writeLine_lines (i : Fin 24) (l : Line) : (s.writeLine i l).lines = s.lines.set i l := rfl
@[simp] theorem State.writeLine_scan (i : Fin 24) (l : Line) : (s.writeLine i l).scan = s.scan := rfl
@[simp] theorem State.writeLine_pins (i : Fin 24) (l : Line) :
    (s.writeLine i l).pins =
      { s.pins with held := if s.pins.frozen && l.isInput then s.pins.held.set i none else s.pins.held } := rfl
@[simp] theorem State.writeLine_blink (i : Fin 24) (l : Line) : (s.writeLine i l).blink = s.blink := rfl
@[simp] theorem State.writeLine_pacer (i : Fin 24) (l : Line) : (s.writeLine i l).pacer = s.pacer := rfl
@[simp] theorem State.writeLine_window (i : Fin 24) (l : Line) : (s.writeLine i l).window = s.window := rfl
@[simp] theorem State.writeLine_history (i : Fin 24) (l : Line) : (s.writeLine i l).history = s.history := rfl
@[simp] theorem State.writeLine_book (i : Fin 24) (l : Line) : (s.writeLine i l).book = s.book := rfl
@[simp] theorem State.writeLine_bands (i : Fin 24) (l : Line) : (s.writeLine i l).bands = s.bands := rfl
@[simp] theorem State.writeLine_elements (i : Fin 24) (l : Line) : (s.writeLine i l).elements = s.elements := rfl
@[simp] theorem State.writeLine_plan (i : Fin 24) (l : Line) : (s.writeLine i l).plan = s.plan := rfl
@[simp] theorem State.writeLine_tickets (i : Fin 24) (l : Line) : (s.writeLine i l).tickets = s.tickets := rfl
@[simp] theorem State.writeLine_log (i : Fin 24) (l : Line) : (s.writeLine i l).log = s.log := rfl
@[simp] theorem State.writeLine_ctl (i : Fin 24) (l : Line) : (s.writeLine i l).ctl = s.ctl := rfl
@[simp] theorem State.writeLine_half (i : Fin 24) (l : Line) : (s.writeLine i l).half = s.half := rfl
@[simp] theorem State.writeLine_fresh (i : Fin 24) (l : Line) : (s.writeLine i l).fresh = s.fresh := rfl
@[simp] theorem State.writeLine_pending (i : Fin 24) (l : Line) : (s.writeLine i l).pending = s.pending := rfl

/-! `State.acceptLevel` -/

@[simp] theorem State.acceptLevel_ports (i : Fin 24) (b : Bool) : (s.acceptLevel i b).ports = s.ports := rfl
@[simp] theorem State.acceptLevel_notices (i : Fin 24) (b : Bool) : (s.acceptLevel i b).notices = s.notices := rfl
@[simp] theorem State.acceptLevel_lines (i : Fin 24) (b : Bool) :
    (s.acceptLevel i b).lines = s.lines.modify i fun l => { l with filtered := some b } := rfl
@[simp] theorem State.acceptLevel_scan (i : Fin 24) (b : Bool) : (s.acceptLevel i b).scan = s.scan := rfl
@[simp] theorem State.acceptLevel_pins (i : Fin 24) (b : Bool) :
    (s.acceptLevel i b).pins = { s.pins with input := withPin s.pins.input i b } := rfl
@[simp] theorem State.acceptLevel_blink (i : Fin 24) (b : Bool) : (s.acceptLevel i b).blink = s.blink := rfl
@[simp] theorem State.acceptLevel_pacer (i : Fin 24) (b : Bool) : (s.acceptLevel i b).pacer = s.pacer := rfl
@[simp] theorem State.acceptLevel_window (i : Fin 24) (b : Bool) : (s.acceptLevel i b).window = s.window := rfl
@[simp] theorem State.acceptLevel_history (i : Fin 24) (b : Bool) : (s.acceptLevel i b).history = s.history := rfl
@[simp] theorem State.acceptLevel_book (i : Fin 24) (b : Bool) : (s.acceptLevel i b).book = s.book := rfl
@[simp] theorem State.acceptLevel_bands (i : Fin 24) (b : Bool) : (s.acceptLevel i b).bands = s.bands := rfl
@[simp] theorem State.acceptLevel_elements (i : Fin 24) (b : Bool) : (s.acceptLevel i b).elements = s.elements := rfl
@[simp] theorem State.acceptLevel_plan (i : Fin 24) (b : Bool) : (s.acceptLevel i b).plan = s.plan := rfl
@[simp] theorem State.acceptLevel_tickets (i : Fin 24) (b : Bool) : (s.acceptLevel i b).tickets = s.tickets := rfl
@[simp] theorem State.acceptLevel_log (i : Fin 24) (b : Bool) : (s.acceptLevel i b).log = s.log := rfl
@[simp] theorem State.acceptLevel_ctl (i : Fin 24) (b : Bool) : (s.acceptLevel i b).ctl = s.ctl := rfl
@[simp] theorem State.acceptLevel_half (i : Fin 24) (b : Bool) : (s.acceptLevel i b).half = s.half := rfl
@[simp] theorem State.acceptLevel_fresh (i : Fin 24) (b : Bool) : (s.acceptLevel i b).fresh = s.fresh := rfl
@[simp] theorem State.acceptLevel_pending (i : Fin 24) (b : Bool) : (s.acceptLevel i b).pending = s.pending := rfl

/-! `State.restartScan` -/

@[simp] theorem State.restartScan_ports : s.restartScan.ports = s.ports := rfl
@[simp] theorem State.restartScan_notices : s.restartScan.notices = s.notices := rfl
@[simp] theorem State.restartScan_lines : s.restartScan.lines = s.lines := rfl
@[simp] theorem State.restartScan_scan : s.restartScan.scan = { s.scan with timer := s.scanTimerPeriod } := rfl
@[simp] theorem State.restartScan_pins : s.restartScan.pins = s.pins := rfl
@[simp] theorem State.restartScan_blink : s.restartScan.blink = s.blink := rfl
@[simp] theorem State.restartScan_pacer : s.restartScan.pacer = s.pacer := rfl
@[simp] theorem State.restartScan_window : s.restartScan.window = s.window := rfl
@[simp] theorem State.restartScan_history : s.restartScan.history = s.history := rfl
@[simp] theorem State.restartScan_book : s.restartScan.book = s.book := rfl
@[simp] theorem State.restartScan_bands : s.restartScan.bands = s.bands := rfl
@[simp] theorem State.restartScan_elements : s.restartScan.elements = s.elements := rfl
@[simp] theorem State.restartScan_plan : s.restartScan.plan = s.plan := rfl
@[simp] theorem State.restartScan_tickets : s.restartScan.tickets = s.tickets := rfl
@[simp] theorem State.restartScan_log : s.restartScan.log = s.log := rfl
@[simp] theorem State.restartScan_ctl : s.restartScan.ctl = s.ctl := rfl
@[simp] theorem State.restartScan_half : s.restartScan.half = s.half := rfl
@[simp] theorem State.restartScan_fresh : s.restartScan.fresh = s.fresh := rfl
@[simp] theorem State.restartScan_pending : s.restartScan.pending = s.pending := rfl

/-! `State.freeze` -/

@[simp] theorem State.freeze_ports : s.freeze.ports = s.ports := rfl
@[simp] theorem State.freeze_notices : s.freeze.notices = s.notices := rfl
@[simp] theorem State.freeze_lines : s.freeze.lines = s.lines := rfl
@[simp] theorem State.freeze_scan : s.freeze.scan = s.scan := rfl
@[simp] theorem State.freeze_pins : s.freeze.pins = { s.pins with held := .ofFn s.pinDrive, frozen := true } := rfl
@[simp] theorem State.freeze_blink : s.freeze.blink = s.blink := rfl
@[simp] theorem State.freeze_pacer : s.freeze.pacer = s.pacer := rfl
@[simp] theorem State.freeze_window : s.freeze.window = s.window := rfl
@[simp] theorem State.freeze_history : s.freeze.history = s.history := rfl
@[simp] theorem State.freeze_book : s.freeze.book = s.book := rfl
@[simp] theorem State.freeze_bands : s.freeze.bands = s.bands := rfl
@[simp] theorem State.freeze_elements : s.freeze.elements = s.elements := rfl
@[simp] theorem State.freeze_plan : s.freeze.plan = s.plan := rfl
@[simp] theorem State.freeze_tickets : s.freeze.tickets = s.tickets := rfl
@[simp] theorem State.freeze_log : s.freeze.log = s.log := rfl
@[simp] theorem State.freeze_ctl : s.freeze.ctl = s.ctl := rfl
@[simp] theorem State.freeze_half : s.freeze.half = s.half := rfl
@[simp] theorem State.freeze_fresh : s.freeze.fresh = s.fresh := rfl
@[simp] theorem State.freeze_pending : s.freeze.pending = s.pending := rfl

/-! `State.mapPort` -/

@[simp] theorem State.mapPort_ports (p : Port) (f : Interface → Interface) :
    (s.mapPort p f).ports = s.ports.modify p f := rfl
@[simp] theorem State.mapPort_notices (p : Port) (f : Interface → Interface) :
    (s.mapPort p f).notices = s.notices := rfl
@[simp] theorem State.mapPort_lines (p : Port) (f : Interface → Interface) : (s.mapPort p f).lines = s.lines := rfl
@[simp] theorem State.mapPort_scan (p : Port) (f : Interface → Interface) : (s.mapPort p f).scan = s.scan := rfl
@[simp] theorem State.mapPort_pins (p : Port) (f : Interface → Interface) : (s.mapPort p f).pins = s.pins := rfl
@[simp] theorem State.mapPort_blink (p : Port) (f : Interface → Interface) : (s.mapPort p f).blink = s.blink := rfl
@[simp] theorem State.mapPort_pacer (p : Port) (f : Interface → Interface) : (s.mapPort p f).pacer = s.pacer := rfl
@[simp] theorem State.mapPort_window (p : Port) (f : Interface → Interface) : (s.mapPort p f).window = s.window := rfl
@[simp] theorem State.mapPort_history (p : Port) (f : Interface → Interface) :
    (s.mapPort p f).history = s.history := rfl
@[simp] theorem State.mapPort_book (p : Port) (f : Interface → Interface) : (s.mapPort p f).book = s.book := rfl
@[simp] theorem State.mapPort_bands (p : Port) (f : Interface → Interface) : (s.mapPort p f).bands = s.bands := rfl
@[simp] theorem State.mapPort_elements (p : Port) (f : Interface → Interface) :
    (s.mapPort p f).elements = s.elements := rfl
@[simp] theorem State.mapPort_plan (p : Port) (f : Interface → Interface) : (s.mapPort p f).plan = s.plan := rfl
@[simp] theorem State.mapPort_tickets (p : Port) (f : Interface → Interface) :
    (s.mapPort p f).tickets = s.tickets := rfl
@[simp] theorem State.mapPort_log (p : Port) (f : Interface → Interface) : (s.mapPort p f).log = s.log := rfl
@[simp] theorem State.mapPort_ctl (p : Port) (f : Interface → Interface) : (s.mapPort p f).ctl = s.ctl := rfl
@[simp] theorem State.mapPort_half (p : Port) (f : Interface → Interface) : (s.mapPort p f).half = s.half := rfl
@[simp] theorem State.mapPort_fresh (p : Port) (f : Interface → Interface) : (s.mapPort p f).fresh = s.fresh := rfl
@[simp] theorem State.mapPort_pending (p : Port) (f : Interface → Interface) :
    (s.mapPort p f).pending = s.pending := rfl

/-! `State.answering` -/

@[simp] theorem State.answering_ports (p : Port) (code : Byte) (r : Result) (d : Nat) :
    (s.answering p code r d).ports =
      s.ports.set p { s.ports.get p with staged := ⟨r, code, BitVec.ofNat 32 d⟩ } := rfl
@[simp] theorem State.answering_notices (p : Port) (code : Byte) (r : Result) (d : Nat) :
    (s.answering p code r d).notices = s.notices := rfl
@[simp] theorem State.answering_lines (p : Port) (code : Byte) (r : Result) (d : Nat) :
    (s.answering p code r d).lines = s.lines := rfl
@[simp] theorem State.answering_scan (p : Port) (code : Byte) (r : Result) (d : Nat) :
    (s.answering p code r d).scan = s.scan := rfl
@[simp] theorem State.answering_pins (p : Port) (code : Byte) (r : Result) (d : Nat) :
    (s.answering p code r d).pins = s.pins := rfl
@[simp] theorem State.answering_blink (p : Port) (code : Byte) (r : Result) (d : Nat) :
    (s.answering p code r d).blink = s.blink := rfl
@[simp] theorem State.answering_pacer (p : Port) (code : Byte) (r : Result) (d : Nat) :
    (s.answering p code r d).pacer = s.pacer := rfl
@[simp] theorem State.answering_window (p : Port) (code : Byte) (r : Result) (d : Nat) :
    (s.answering p code r d).window = s.window := rfl
@[simp] theorem State.answering_history (p : Port) (code : Byte) (r : Result) (d : Nat) :
    (s.answering p code r d).history = s.history := rfl
@[simp] theorem State.answering_book (p : Port) (code : Byte) (r : Result) (d : Nat) :
    (s.answering p code r d).book = s.book := rfl
@[simp] theorem State.answering_bands (p : Port) (code : Byte) (r : Result) (d : Nat) :
    (s.answering p code r d).bands = s.bands := rfl
@[simp] theorem State.answering_elements (p : Port) (code : Byte) (r : Result) (d : Nat) :
    (s.answering p code r d).elements = s.elements := rfl
@[simp] theorem State.answering_plan (p : Port) (code : Byte) (r : Result) (d : Nat) :
    (s.answering p code r d).plan = s.plan := rfl
@[simp] theorem State.answering_tickets (p : Port) (code : Byte) (r : Result) (d : Nat) :
    (s.answering p code r d).tickets = s.tickets := rfl
@[simp] theorem State.answering_log (p : Port) (code : Byte) (r : Result) (d : Nat) :
    (s.answering p code r d).log = s.log := rfl
@[simp] theorem State.answering_ctl (p : Port) (code : Byte) (r : Result) (d : Nat) :
    (s.answering p code r d).ctl = s.ctl := rfl
@[simp] theorem State.answering_half (p : Port) (code : Byte) (r : Result) (d : Nat) :
    (s.answering p code r d).half = s.half := rfl
@[simp] theorem State.answering_fresh (p : Port) (code : Byte) (r : Result) (d : Nat) :
    (s.answering p code r d).fresh = s.fresh := rfl
@[simp] theorem State.answering_pending (p : Port) (code : Byte) (r : Result) (d : Nat) :
    (s.answering p code r d).pending = s.pending := rfl

/-! `State.mapZone` -/

@[simp] theorem State.mapZone_ports (z : Fin 8) (f : ZoneBook → ZoneBook) : (s.mapZone z f).ports = s.ports := rfl
@[simp] theorem State.mapZone_notices (z : Fin 8) (f : ZoneBook → ZoneBook) :
    (s.mapZone z f).notices = s.notices := rfl
@[simp] theorem State.mapZone_lines (z : Fin 8) (f : ZoneBook → ZoneBook) : (s.mapZone z f).lines = s.lines := rfl
@[simp] theorem State.mapZone_scan (z : Fin 8) (f : ZoneBook → ZoneBook) : (s.mapZone z f).scan = s.scan := rfl
@[simp] theorem State.mapZone_pins (z : Fin 8) (f : ZoneBook → ZoneBook) : (s.mapZone z f).pins = s.pins := rfl
@[simp] theorem State.mapZone_blink (z : Fin 8) (f : ZoneBook → ZoneBook) : (s.mapZone z f).blink = s.blink := rfl
@[simp] theorem State.mapZone_pacer (z : Fin 8) (f : ZoneBook → ZoneBook) : (s.mapZone z f).pacer = s.pacer := rfl
@[simp] theorem State.mapZone_window (z : Fin 8) (f : ZoneBook → ZoneBook) : (s.mapZone z f).window = s.window := rfl
@[simp] theorem State.mapZone_history (z : Fin 8) (f : ZoneBook → ZoneBook) :
    (s.mapZone z f).history = s.history := rfl
@[simp] theorem State.mapZone_book (z : Fin 8) (f : ZoneBook → ZoneBook) :
    (s.mapZone z f).book = { s.book with zones := s.book.zones.modify z f } := rfl
@[simp] theorem State.mapZone_bands (z : Fin 8) (f : ZoneBook → ZoneBook) : (s.mapZone z f).bands = s.bands := rfl
@[simp] theorem State.mapZone_elements (z : Fin 8) (f : ZoneBook → ZoneBook) :
    (s.mapZone z f).elements = s.elements := rfl
@[simp] theorem State.mapZone_plan (z : Fin 8) (f : ZoneBook → ZoneBook) : (s.mapZone z f).plan = s.plan := rfl
@[simp] theorem State.mapZone_tickets (z : Fin 8) (f : ZoneBook → ZoneBook) :
    (s.mapZone z f).tickets = s.tickets := rfl
@[simp] theorem State.mapZone_log (z : Fin 8) (f : ZoneBook → ZoneBook) : (s.mapZone z f).log = s.log := rfl
@[simp] theorem State.mapZone_ctl (z : Fin 8) (f : ZoneBook → ZoneBook) : (s.mapZone z f).ctl = s.ctl := rfl
@[simp] theorem State.mapZone_half (z : Fin 8) (f : ZoneBook → ZoneBook) : (s.mapZone z f).half = s.half := rfl
@[simp] theorem State.mapZone_fresh (z : Fin 8) (f : ZoneBook → ZoneBook) : (s.mapZone z f).fresh = s.fresh := rfl
@[simp] theorem State.mapZone_pending (z : Fin 8) (f : ZoneBook → ZoneBook) :
    (s.mapZone z f).pending = s.pending := rfl

/-! `State.setElement` -/

@[simp] theorem State.setElement_ports (n : Fin 64) (e : Element) : (s.setElement n e).ports = s.ports := rfl
@[simp] theorem State.setElement_notices (n : Fin 64) (e : Element) : (s.setElement n e).notices = s.notices := rfl
@[simp] theorem State.setElement_lines (n : Fin 64) (e : Element) : (s.setElement n e).lines = s.lines := rfl
@[simp] theorem State.setElement_scan (n : Fin 64) (e : Element) : (s.setElement n e).scan = s.scan := rfl
@[simp] theorem State.setElement_pins (n : Fin 64) (e : Element) : (s.setElement n e).pins = s.pins := rfl
@[simp] theorem State.setElement_blink (n : Fin 64) (e : Element) : (s.setElement n e).blink = s.blink := rfl
@[simp] theorem State.setElement_pacer (n : Fin 64) (e : Element) : (s.setElement n e).pacer = s.pacer := rfl
@[simp] theorem State.setElement_window (n : Fin 64) (e : Element) : (s.setElement n e).window = s.window := rfl
@[simp] theorem State.setElement_history (n : Fin 64) (e : Element) : (s.setElement n e).history = s.history := rfl
@[simp] theorem State.setElement_book (n : Fin 64) (e : Element) : (s.setElement n e).book = s.book := rfl
@[simp] theorem State.setElement_bands (n : Fin 64) (e : Element) : (s.setElement n e).bands = s.bands := rfl
@[simp] theorem State.setElement_elements (n : Fin 64) (e : Element) :
    (s.setElement n e).elements = s.elements.set n e := rfl
@[simp] theorem State.setElement_plan (n : Fin 64) (e : Element) : (s.setElement n e).plan = s.plan := rfl
@[simp] theorem State.setElement_tickets (n : Fin 64) (e : Element) : (s.setElement n e).tickets = s.tickets := rfl
@[simp] theorem State.setElement_log (n : Fin 64) (e : Element) : (s.setElement n e).log = s.log := rfl
@[simp] theorem State.setElement_ctl (n : Fin 64) (e : Element) : (s.setElement n e).ctl = s.ctl := rfl
@[simp] theorem State.setElement_half (n : Fin 64) (e : Element) : (s.setElement n e).half = s.half := rfl
@[simp] theorem State.setElement_fresh (n : Fin 64) (e : Element) : (s.setElement n e).fresh = s.fresh := rfl
@[simp] theorem State.setElement_pending (n : Fin 64) (e : Element) : (s.setElement n e).pending = s.pending := rfl

/-! `State.endFrame` -/

@[simp] theorem State.endFrame_ports (p : Port) (edges : Nat) :
    (s.endFrame p edges).ports =
      s.ports.modify p fun i => { i with select := false, bitCount := countEdges edges } := rfl
@[simp] theorem State.endFrame_notices (p : Port) (edges : Nat) : (s.endFrame p edges).notices = s.notices := rfl
@[simp] theorem State.endFrame_lines (p : Port) (edges : Nat) : (s.endFrame p edges).lines = s.lines := rfl
@[simp] theorem State.endFrame_scan (p : Port) (edges : Nat) : (s.endFrame p edges).scan = s.scan := rfl
@[simp] theorem State.endFrame_pins (p : Port) (edges : Nat) : (s.endFrame p edges).pins = s.pins := rfl
@[simp] theorem State.endFrame_blink (p : Port) (edges : Nat) : (s.endFrame p edges).blink = s.blink := rfl
@[simp] theorem State.endFrame_pacer (p : Port) (edges : Nat) : (s.endFrame p edges).pacer = s.pacer := rfl
@[simp] theorem State.endFrame_window (p : Port) (edges : Nat) : (s.endFrame p edges).window = s.window := rfl
@[simp] theorem State.endFrame_history (p : Port) (edges : Nat) : (s.endFrame p edges).history = s.history := rfl
@[simp] theorem State.endFrame_book (p : Port) (edges : Nat) : (s.endFrame p edges).book = s.book := rfl
@[simp] theorem State.endFrame_bands (p : Port) (edges : Nat) : (s.endFrame p edges).bands = s.bands := rfl
@[simp] theorem State.endFrame_elements (p : Port) (edges : Nat) : (s.endFrame p edges).elements = s.elements := rfl
@[simp] theorem State.endFrame_plan (p : Port) (edges : Nat) : (s.endFrame p edges).plan = s.plan := rfl
@[simp] theorem State.endFrame_tickets (p : Port) (edges : Nat) : (s.endFrame p edges).tickets = s.tickets := rfl
@[simp] theorem State.endFrame_log (p : Port) (edges : Nat) : (s.endFrame p edges).log = s.log := rfl
@[simp] theorem State.endFrame_ctl (p : Port) (edges : Nat) : (s.endFrame p edges).ctl = s.ctl := rfl
@[simp] theorem State.endFrame_half (p : Port) (edges : Nat) : (s.endFrame p edges).half = s.half := rfl
@[simp] theorem State.endFrame_fresh (p : Port) (edges : Nat) : (s.endFrame p edges).fresh = s.fresh := rfl
@[simp] theorem State.endFrame_pending (p : Port) (edges : Nat) : (s.endFrame p edges).pending = s.pending := rfl

/-! `State.parkMarked` -/

@[simp] theorem State.parkMarked_ports : s.parkMarked.ports = s.ports := rfl
@[simp] theorem State.parkMarked_notices : s.parkMarked.notices = s.notices := rfl
@[simp] theorem State.parkMarked_lines : s.parkMarked.lines = s.lines := rfl
@[simp] theorem State.parkMarked_scan : s.parkMarked.scan = s.scan := rfl
@[simp] theorem State.parkMarked_pins : s.parkMarked.pins = s.pins := rfl
@[simp] theorem State.parkMarked_blink : s.parkMarked.blink = s.blink := rfl
@[simp] theorem State.parkMarked_pacer : s.parkMarked.pacer = s.pacer := rfl
@[simp] theorem State.parkMarked_window : s.parkMarked.window = s.window := rfl
@[simp] theorem State.parkMarked_history :
    s.parkMarked.history = { s.history with markers := { s.history.markers with park := true } } := rfl
@[simp] theorem State.parkMarked_book : s.parkMarked.book = s.book := rfl
@[simp] theorem State.parkMarked_bands : s.parkMarked.bands = s.bands := rfl
@[simp] theorem State.parkMarked_elements : s.parkMarked.elements = s.elements := rfl
@[simp] theorem State.parkMarked_plan : s.parkMarked.plan = s.plan := rfl
@[simp] theorem State.parkMarked_tickets : s.parkMarked.tickets = s.tickets := rfl
@[simp] theorem State.parkMarked_log : s.parkMarked.log = s.log := rfl
@[simp] theorem State.parkMarked_ctl : s.parkMarked.ctl = s.ctl := rfl
@[simp] theorem State.parkMarked_half : s.parkMarked.half = s.half := rfl
@[simp] theorem State.parkMarked_fresh : s.parkMarked.fresh = s.fresh := rfl
@[simp] theorem State.parkMarked_pending : s.parkMarked.pending = s.pending := rfl

/-! `State.loadWindow` -/

@[simp] theorem State.loadWindow_ports (seq : Nat) : (s.loadWindow seq).ports = s.ports := rfl
@[simp] theorem State.loadWindow_notices (seq : Nat) : (s.loadWindow seq).notices = s.notices := rfl
@[simp] theorem State.loadWindow_lines (seq : Nat) : (s.loadWindow seq).lines = s.lines := rfl
@[simp] theorem State.loadWindow_scan (seq : Nat) : (s.loadWindow seq).scan = s.scan := rfl
@[simp] theorem State.loadWindow_pins (seq : Nat) : (s.loadWindow seq).pins = s.pins := rfl
@[simp] theorem State.loadWindow_blink (seq : Nat) : (s.loadWindow seq).blink = s.blink := rfl
@[simp] theorem State.loadWindow_pacer (seq : Nat) : (s.loadWindow seq).pacer = s.pacer := rfl
@[simp] theorem State.loadWindow_window (seq : Nat) :
    (s.loadWindow seq).window =
      { s.window with remaining := s.window.length, loaded := s.window.length, seq := seq } := rfl
@[simp] theorem State.loadWindow_history (seq : Nat) : (s.loadWindow seq).history = s.history := rfl
@[simp] theorem State.loadWindow_book (seq : Nat) : (s.loadWindow seq).book = s.book := rfl
@[simp] theorem State.loadWindow_bands (seq : Nat) : (s.loadWindow seq).bands = s.bands := rfl
@[simp] theorem State.loadWindow_elements (seq : Nat) : (s.loadWindow seq).elements = s.elements := rfl
@[simp] theorem State.loadWindow_plan (seq : Nat) : (s.loadWindow seq).plan = s.plan := rfl
@[simp] theorem State.loadWindow_tickets (seq : Nat) : (s.loadWindow seq).tickets = s.tickets := rfl
@[simp] theorem State.loadWindow_log (seq : Nat) : (s.loadWindow seq).log = s.log := rfl
@[simp] theorem State.loadWindow_ctl (seq : Nat) : (s.loadWindow seq).ctl = s.ctl := rfl
@[simp] theorem State.loadWindow_half (seq : Nat) : (s.loadWindow seq).half = s.half := rfl
@[simp] theorem State.loadWindow_fresh (seq : Nat) : (s.loadWindow seq).fresh = s.fresh := rfl
@[simp] theorem State.loadWindow_pending (seq : Nat) : (s.loadWindow seq).pending = s.pending := rfl

/-! `State.raiseIf`, which raises a notice or leaves the state -/

@[simp] theorem State.raiseIf_ports (n : Notice) (b : Bool) : (s.raiseIf n b).ports = s.ports := by
  cases b <;> rfl
@[simp] theorem State.raiseIf_lines (n : Notice) (b : Bool) : (s.raiseIf n b).lines = s.lines := by
  cases b <;> rfl
@[simp] theorem State.raiseIf_scan (n : Notice) (b : Bool) : (s.raiseIf n b).scan = s.scan := by
  cases b <;> rfl
@[simp] theorem State.raiseIf_pins (n : Notice) (b : Bool) : (s.raiseIf n b).pins = s.pins := by
  cases b <;> rfl
@[simp] theorem State.raiseIf_blink (n : Notice) (b : Bool) : (s.raiseIf n b).blink = s.blink := by
  cases b <;> rfl
@[simp] theorem State.raiseIf_pacer (n : Notice) (b : Bool) : (s.raiseIf n b).pacer = s.pacer := by
  cases b <;> rfl
@[simp] theorem State.raiseIf_window (n : Notice) (b : Bool) : (s.raiseIf n b).window = s.window := by
  cases b <;> rfl
@[simp] theorem State.raiseIf_history (n : Notice) (b : Bool) : (s.raiseIf n b).history = s.history := by
  cases b <;> rfl
@[simp] theorem State.raiseIf_book (n : Notice) (b : Bool) : (s.raiseIf n b).book = s.book := by
  cases b <;> rfl
@[simp] theorem State.raiseIf_bands (n : Notice) (b : Bool) : (s.raiseIf n b).bands = s.bands := by
  cases b <;> rfl
@[simp] theorem State.raiseIf_elements (n : Notice) (b : Bool) : (s.raiseIf n b).elements = s.elements := by
  cases b <;> rfl
@[simp] theorem State.raiseIf_plan (n : Notice) (b : Bool) : (s.raiseIf n b).plan = s.plan := by
  cases b <;> rfl
@[simp] theorem State.raiseIf_tickets (n : Notice) (b : Bool) : (s.raiseIf n b).tickets = s.tickets := by
  cases b <;> rfl
@[simp] theorem State.raiseIf_log (n : Notice) (b : Bool) : (s.raiseIf n b).log = s.log := by
  cases b <;> rfl
@[simp] theorem State.raiseIf_ctl (n : Notice) (b : Bool) : (s.raiseIf n b).ctl = s.ctl := by
  cases b <;> rfl
@[simp] theorem State.raiseIf_half (n : Notice) (b : Bool) : (s.raiseIf n b).half = s.half := by
  cases b <;> rfl
@[simp] theorem State.raiseIf_fresh (n : Notice) (b : Bool) : (s.raiseIf n b).fresh = s.fresh := by
  cases b <;> rfl
@[simp] theorem State.raiseIf_pending (n : Notice) (b : Bool) : (s.raiseIf n b).pending = s.pending := by
  cases b <;> rfl

/-! `State.bringDue` -/

@[simp] theorem State.bringDue_ports : s.bringDue.ports = s.ports := by simp [State.bringDue]
@[simp] theorem State.bringDue_lines : s.bringDue.lines = s.lines := by simp [State.bringDue]
@[simp] theorem State.bringDue_scan : s.bringDue.scan = s.scan := by simp [State.bringDue]
@[simp] theorem State.bringDue_pins : s.bringDue.pins = s.pins := by simp [State.bringDue]
@[simp] theorem State.bringDue_blink : s.bringDue.blink = s.blink := by simp [State.bringDue]
@[simp] theorem State.bringDue_pacer : s.bringDue.pacer = s.pacer := by simp [State.bringDue]
@[simp] theorem State.bringDue_window : s.bringDue.window = s.window := by simp [State.bringDue]
@[simp] theorem State.bringDue_history : s.bringDue.history = s.history := by simp [State.bringDue]
@[simp] theorem State.bringDue_book : s.bringDue.book = s.book := by simp [State.bringDue]
@[simp] theorem State.bringDue_bands : s.bringDue.bands = s.bands := by simp [State.bringDue]
@[simp] theorem State.bringDue_elements : s.bringDue.elements = s.elements := by simp [State.bringDue]
@[simp] theorem State.bringDue_tickets : s.bringDue.tickets = s.tickets := by simp [State.bringDue]
@[simp] theorem State.bringDue_log : s.bringDue.log = s.log := by simp [State.bringDue]
@[simp] theorem State.bringDue_ctl : s.bringDue.ctl = s.ctl := by simp [State.bringDue]
@[simp] theorem State.bringDue_half : s.bringDue.half = s.half := by simp [State.bringDue]
@[simp] theorem State.bringDue_fresh : s.bringDue.fresh = s.fresh := by simp [State.bringDue]
@[simp] theorem State.bringDue_pending : s.bringDue.pending = s.pending := by simp [State.bringDue]

/-! `State.accrueAll` -/

@[simp] theorem State.accrueAll_ports : s.accrueAll.ports = s.ports := by simp [State.accrueAll]
@[simp] theorem State.accrueAll_lines : s.accrueAll.lines = s.lines := by simp [State.accrueAll]
@[simp] theorem State.accrueAll_scan : s.accrueAll.scan = s.scan := by simp [State.accrueAll]
@[simp] theorem State.accrueAll_pins : s.accrueAll.pins = s.pins := by simp [State.accrueAll]
@[simp] theorem State.accrueAll_blink : s.accrueAll.blink = s.blink := by simp [State.accrueAll]
@[simp] theorem State.accrueAll_pacer : s.accrueAll.pacer = s.pacer := by simp [State.accrueAll]
@[simp] theorem State.accrueAll_window : s.accrueAll.window = s.window := by simp [State.accrueAll]
@[simp] theorem State.accrueAll_book : s.accrueAll.book = s.book := by simp [State.accrueAll]
@[simp] theorem State.accrueAll_bands : s.accrueAll.bands = s.bands := by simp [State.accrueAll]
@[simp] theorem State.accrueAll_plan : s.accrueAll.plan = s.plan := by simp [State.accrueAll]
@[simp] theorem State.accrueAll_log : s.accrueAll.log = s.log := by simp [State.accrueAll]
@[simp] theorem State.accrueAll_ctl : s.accrueAll.ctl = s.ctl := by simp [State.accrueAll]
@[simp] theorem State.accrueAll_half : s.accrueAll.half = s.half := by simp [State.accrueAll]
@[simp] theorem State.accrueAll_fresh : s.accrueAll.fresh = s.fresh := by simp [State.accrueAll]
@[simp] theorem State.accrueAll_pending : s.accrueAll.pending = s.pending := by simp [State.accrueAll]

/-! `State.endWindow` -/

@[simp] theorem State.endWindow_lines : s.endWindow.lines = s.lines := by
  simp [State.endWindow, State.appendHistory, State.passElements]
@[simp] theorem State.endWindow_scan : s.endWindow.scan = s.scan := by
  simp [State.endWindow, State.appendHistory, State.passElements]
@[simp] theorem State.endWindow_pins : s.endWindow.pins = s.pins := by
  simp [State.endWindow, State.appendHistory, State.passElements]
@[simp] theorem State.endWindow_blink : s.endWindow.blink = s.blink := by
  simp [State.endWindow, State.appendHistory, State.passElements]
@[simp] theorem State.endWindow_pacer : s.endWindow.pacer = s.pacer := by
  simp [State.endWindow, State.appendHistory, State.passElements]
@[simp] theorem State.endWindow_book : s.endWindow.book = s.book := by
  simp [State.endWindow, State.appendHistory, State.passElements]
@[simp] theorem State.endWindow_bands : s.endWindow.bands = s.bands := by
  simp [State.endWindow, State.appendHistory, State.passElements]
@[simp] theorem State.endWindow_tickets : s.endWindow.tickets = s.tickets := by
  simp [State.endWindow, State.appendHistory, State.passElements]
@[simp] theorem State.endWindow_log : s.endWindow.log = s.log := by
  simp [State.endWindow, State.appendHistory, State.passElements]
@[simp] theorem State.endWindow_ctl : s.endWindow.ctl = s.ctl := by
  simp [State.endWindow, State.appendHistory, State.passElements]
@[simp] theorem State.endWindow_half : s.endWindow.half = s.half := by
  simp [State.endWindow, State.appendHistory, State.passElements]
@[simp] theorem State.endWindow_fresh : s.endWindow.fresh = s.fresh := by
  simp [State.endWindow, State.appendHistory, State.passElements]
@[simp] theorem State.endWindow_pending : s.endWindow.pending = s.pending := by
  simp [State.endWindow, State.appendHistory, State.passElements]

end Sys2Proof.Machine
end

