-- ==== Sys2Proof/Laws/Ops.lean ====
section
/-! SUPPORT. What each shared operation can do, said once: operands and what they name, the notices, the wake, a line
written, the due list, the service log, a frame's edges and the data-out pin, what a close leaves outstanding, the
bringing of the operating state, the entry to PARKED and the passing of time. Each law gives the operation in the
words of Sys2Proof/Safety.lean. -/

namespace Sys2Proof.Machine

/-! ## Operands -/

/-- A number below `n` names its record. -/
theorem finOf_val {n : Nat} (i : Fin n) : finOf n i.val = some i := by simp [finOf]

/-- A number from `n` on names none. -/
theorem finOf_none {n k : Nat} (h : n ≤ k) : finOf n k = none := by simp [finOf, Nat.not_lt.mpr h]

/-- What a number names is the record with that number. -/
theorem finOf_eq_some {n k : Nat} {i : Fin n} : finOf n k = some i ↔ k = i.val := by
  unfold finOf
  split
  · simp [Fin.ext_iff]
  · rename_i h
    constructor
    · intro e
      cases e
    · intro e
      exact absurd (e ▸ i.isLt) h

/-- A value in its range is stored as it is. -/
theorem within_some {lo hi v : Nat} (h1 : lo ≤ v) (h2 : v ≤ hi) : within lo hi v = some v := by simp [within, h1, h2]

/-- A value out of its range names nothing. -/
theorem within_none {lo hi v : Nat} (h : v < lo ∨ hi < v) : within lo hi v = none := by
  unfold within
  rw [if_neg (by omega)]

/-- A value up to the top is stored clamped up. -/
theorem clampedUp_some {lo hi v : Nat} (h : v ≤ hi) : clampedUp lo hi v = some (max lo v) := by simp [clampedUp, h]

/-- A value above the top is refused. -/
theorem clampedUp_none {lo hi v : Nat} (h : hi < v) : clampedUp lo hi v = none := by
  simp [clampedUp, Nat.not_le.mpr h]

/-! ## Notices and wake -/

/-- The bits of the notices that the terms of the statements raise (R143, R186). -/
@[simp] theorem worn_bit : Notice.worn.bit = 0x0001 := rfl

@[simp] theorem plan_bit : Notice.plan.bit = 0x0004 := rfl

@[simp] theorem woke_bit : Notice.woke.bit = 0x0800 := rfl

/-- Raising an event notice at every port is adding its bit there (R144). -/
theorem raiseAll_eq_noticed (s : State) (n : Notice) : s.raiseAll n = s.noticed n.bit := rfl

@[simp] theorem raiseIf_true (s : State) (n : Notice) : s.raiseIf n true = s.raiseAll n := rfl

@[simp] theorem raiseIf_false (s : State) (n : Notice) : s.raiseIf n false = s := rfl

/-- A wake, said whole (R163). -/
theorem wakeIfParked_eq_awake (s : State) : s.wakeIfParked = s.awake := by
  by_cases h : s.ctl.op = .parked
  · simp [State.wakeIfParked, State.awake, h, State.wake, State.restartScan, State.scanTimerPeriod, State.raiseAll]
  · simp [State.wakeIfParked, State.awake, h]

/-- A wake leaves the ports. -/
@[simp] theorem awake_ports (s : State) : s.awake.ports = s.ports := by
  unfold State.awake
  split <;> rfl

/-! ## Lines -/

/-- A line record written, said whole (R3, R19). -/
theorem writeLine_eq_lineWritten (s : State) (i : Fin 24) (l : Line) : s.writeLine i l = s.lineWritten i l := by
  simp [State.writeLine, State.lineWritten]

/-- A GATE line that becomes active in a HELD zone sets access-seen on its WORKING tickets (R16). -/
theorem gateOpened_held {s : State} {z : Fin 8} (h : (s.tickets.holds.get z).state = .held) :
    s.gateOpened z = s.mapZoneTickets z fun t => if t.state = .working then { t with accessSeen := true } else t := by
  rw [State.gateOpened, if_pos h]

/-- A GATE line that becomes active in any other zone raises ACCESS (R16). -/
theorem gateOpened_open {s : State} {z : Fin 8} (h : (s.tickets.holds.get z).state ≠ .held) :
    s.gateOpened z = s.noticed Notice.access.bit := by
  rw [State.gateOpened, if_neg h, raiseAll_eq_noticed]

/-- A write that makes no gate active in a zone it was not active in only writes the record (R15). -/
theorem writeLineGate_quiet {s : State} {i : Fin 24} {l : Line}
    (h : ∀ z, l.activeZone = some z → (s.lines.get i).activeZone = some z) :
    s.writeLineGate i l = s.lineWritten i l := by
  unfold State.writeLineGate
  rw [← writeLine_eq_lineWritten]
  split
  · rename_i z hz
    rw [if_pos (h z hz)]
  · rfl

/-- A write that makes a gate active in a zone it was not active in (R15, R16). -/
theorem writeLineGate_opens {s : State} {i : Fin 24} {l : Line} {z : Fin 8} (hz : l.activeZone = some z)
    (h : (s.lines.get i).activeZone ≠ some z) : s.writeLineGate i l = (s.lineWritten i l).gateOpened z := by
  simp [State.writeLineGate, hz, h, writeLine_eq_lineWritten]

/-- The zone a GATE line is active in, in the words of its record (R15). -/
theorem activeZone_eq_some {l : Line} {z : Fin 8} :
    l.activeZone = some z ↔ l.function = .gate ∧ l.filtered = some l.polarity ∧ l.zone = z := by
  unfold Line.activeZone
  by_cases hg : l.function = .gate
  · have hl : l.sampledLevel = l.filtered := by
      unfold Line.sampledLevel
      rw [hg]
    rw [hl]
    by_cases hf : l.filtered = some l.polarity <;> simp [hg, hf]
  · simp [hg]

/-- A pulse below the top of the counter is counted (R8). -/
theorem countPulse_counted {s : State} {i : Fin 24} (h : (s.lines.get i).count < 65535) :
    s.countPulse i = { s with lines := s.lines.modify i fun l => { l with count := l.count + 1 } } := by
  rw [State.countPulse, Config.countTop, if_pos h]

/-- A pulse at a full counter is lost with OVERRUN (R8). -/
theorem countPulse_lost {s : State} {i : Fin 24} (h : 65535 ≤ (s.lines.get i).count) :
    s.countPulse i = s.raiseAt .overrun .m := by
  rw [State.countPulse, Config.countTop, if_neg (Nat.not_lt.mpr h)]

/-! ## Demands and releases -/

/-- A demand that does not fall to 0 is all that changes (R118, R126). -/
theorem lowerDemand_left {s : State} {z : Fin 8} (h : 1 < (s.tickets.holds.get z).demand) :
    s.lowerDemand z = s.mapHold z fun k => { k with demand := k.demand - 1 } := by
  unfold State.lowerDemand
  simp only [State.mapHold_tickets, Table.get_modify_same]
  rw [if_neg (by omega)]

/-- A demand that falls to 0 releases its zone (R119). -/
theorem lowerDemand_last {s : State} {z : Fin 8} (h : (s.tickets.holds.get z).demand ≤ 1) :
    s.lowerDemand z = (s.mapHold z fun k => { k with demand := k.demand - 1 }).release z := by
  unfold State.lowerDemand
  simp only [State.mapHold_tickets, Table.get_modify_same]
  rw [if_pos (by omega)]

/-! ## The due list -/

/-- The due list's members (R96). -/
theorem mem_dueListOf {elements : Table Element 64} {horizon : Nat} {n : Fin 64} :
    n ∈ dueListOf elements horizon ↔ (elements.get n).planned horizon = true := by
  simp [dueListOf, List.mem_insertionSort]

/-- A bringing of the due list, for records and a horizon just written, said whole (R98). -/
theorem bringDue_eq_replanned (s : State) (elements : Table Element 64) (horizon : Nat) :
    ({ s with
        elements := elements
        plan := { s.plan with horizon := horizon } } : State).bringDue = s.replanned elements horizon := by
  unfold State.bringDue State.replanned Plan.reformed
  by_cases h : dueListOf elements horizon = s.plan.due
  · simp [h, State.raiseIf]
  · simp [h, State.raiseIf, State.raiseAll, State.noticed]

/-- A record replaced by one whose state may be another, said whole (R58, R98). -/
theorem restateElement_eq_restated (s : State) (n : Fin 64) (e : Element) :
    s.restateElement n e = s.restated n e := by
  unfold State.restateElement State.restated
  by_cases h : e.state = .worn ∧ (s.elements.get n).state ≠ .worn
  · rw [if_pos h]
    simp only [h.1, h.2, decide_true, Bool.and_self, ne_eq, not_false_eq_true, raiseIf_true]
    exact bringDue_eq_replanned (s.noticed Notice.worn.bit) (s.elements.set n e) s.plan.horizon
  · rw [if_neg h]
    have : (decide (e.state = .worn) && decide ((s.elements.get n).state ≠ .worn)) = false := by
      simpa using h
    rw [this, raiseIf_false]
    exact bringDue_eq_replanned s (s.elements.set n e) s.plan.horizon

/-! ## The service log -/

/-- A service record appended, said whole (R134, R138 to R140). -/
theorem appendLog_eq_logged (s : State) (e : Fin 64) (ticket : Nat) (o : LogOutcome) (wear renewals : Nat) :
    s.appendLog e ticket o wear renewals = s.logged e ticket o wear renewals := by
  unfold State.appendLog State.logged pushRing droppedBy oldestOf nextSequence Config.logCapacity Cursor.onAppend
  cases hr : s.log.ring with
  | nil =>
    simp [PerPort.map]
    all_goals exact ⟨rfl, rfl, rfl⟩
  | cons a rest =>
    by_cases h : (a :: rest).length < 128
    · simp only [h, if_true, List.cons_append, Nat.not_le.mpr h, false_and, if_false]
      simp [PerPort.map]
      all_goals exact ⟨rfl, rfl, rfl⟩
    · simp only [h, if_false, Nat.le_of_not_lt h, true_and]
      cases rest <;> simp [PerPort.map]
      all_goals exact ⟨rfl, rfl, rfl⟩

/-! ## Frames -/

/-- The edges of a chip-select period are counted to 255 at most (R173). -/
@[simp] theorem countEdges_eq (edges : Nat) : countEdges edges = min 255 edges := rfl

/-- One edge more adds 1 to the count, up to 255 (R173). -/
theorem countEdges_succ (edges : Nat) :
    countEdges (edges + 1) = saturate Config.bitCountTop (countEdges edges + 1) := by
  simp only [countEdges, saturate, Config.bitCountTop]
  omega

/-- A void frame discarded, said whole (R173, R178). -/
theorem discardVoid_eq (s : State) (p : Port) (edges : Nat) :
    s.discardVoid p edges = s.mapPort p fun i => { i with
      select := false
      void := false
      bitCount := min 255 edges } := by
  cases p <;> simp [State.discardVoid, State.endFrame, State.mapPort, PerPort.modify, PerPort.set, PerPort.get]

/-- Nothing drives the data-out pin in RETAINED or with chip select released (R166, R173). -/
theorem dataOut_none {s : State} {p : Port} (falls : Nat) (h : s.ctl.op = .retained ∨ (s.ports.get p).select = false) :
    s.dataOut p falls = none := by
  unfold State.dataOut Interface.dataOut
  by_cases hr : s.ctl.op = .retained
  · rw [if_pos hr]
  · rw [if_neg hr, h.resolve_left hr]
    rfl

/-- With chip select asserted the pin shows the answer bit by bit, then 0 (R173). -/
theorem dataOut_some {s : State} {p : Port} (falls : Nat) (h : s.ctl.op ≠ .retained)
    (hs : (s.ports.get p).select = true) :
    s.dataOut p falls = some (if falls < 48 then (s.ports.get p).shiftOut.getMsbD falls else false) := by
  rw [State.dataOut, if_neg h, Interface.dataOut, if_pos hs]

/-! ## What a close leaves outstanding -/

/-- Where nothing is outstanding there is nothing to take (log 6). -/
theorem settle_of_not_outstanding {s : State} (h : s.outstanding = false) : s.settle = s := by
  have h1 : ∀ z, s.tickets.reports.get z = false := by
    intro z
    by_contra hz
    have : s.tickets.reports.any (fun b => b) = true :=
      (Table.any_iff s.tickets.reports fun b => b).mpr ⟨z, by simpa using hz⟩
    simp [State.outstanding, this] at h
  have h2 : s.window.remaining ≠ 0 := by
    intro hz
    simp [State.outstanding, hz] at h
  have h3 : ∀ l : List (Fin 8), l.foldl State.takeReportIf s = s := by
    intro l
    induction l with
    | nil => rfl
    | cons z l ih => simpa [State.takeReportIf, h1 z] using ih
  simp [State.settle, h3, State.endWindowIf, h2]

/-! ## The operating state -/

/-- A bringing that arrives where the device stands leaves it (R160). -/
theorem bring_of_same {s : State} (h : s.broughtTo = s.ctl.op) : s.bring = s := by
  unfold State.bring
  rw [if_pos h]
  exact ite_self s

/-- A bringing that does not arrive at PARKED, from a device that runs, for votes and flags just written (R160). -/
theorem bring_eq_broughtRunning {s : State} {c : Control} (h : s.running = true) (hc : c.op = s.ctl.op)
    (hq : c.requested = .parked → s.heldBack = true) :
    State.bring { s with ctl := c } = s.broughtRunning c := by
  have hr : ({ s with ctl := c } : State).running = true := by simpa [State.running, hc] using h
  have ha : ({ s with ctl := c } : State).broughtTo = if c.requested = .parked then .quiet else c.requested := by
    have hh : ({ s with ctl := c } : State).heldBack = s.heldBack := rfl
    by_cases hp : c.requested = .parked
    · simp [State.broughtTo, hp, hh, hq hp]
    · simp [State.broughtTo, hp]
  have hn : (if c.requested = .parked then OpState.quiet else c.requested) ≠ .parked := by split <;> simp_all
  have hd : (if c.requested = .parked then OpState.quiet else c.requested) ≠ .retained := by
    split
    · simp
    · unfold Control.requested
      split
      · simp
      · split <;> simp
  unfold State.bring State.broughtRunning
  rw [if_pos hr, ha]
  by_cases hs : (if c.requested = .parked then OpState.quiet else c.requested) = s.ctl.op
  · simp only [hs, hc, if_true]
    simp [← hc]
  · simp only [hs, hc, hn, if_false]
    generalize (if c.requested = OpState.parked then OpState.quiet else c.requested) = a at *
    cases a <;> simp_all [State.restartScan, State.scanTimerPeriod, scanPeriod]

/-- A bringing that arrives at PARKED is the entry of R161. -/
theorem bring_of_parked {s : State} (h : s.running = true) (hp : s.broughtTo = .parked) : s.bring = s.parkEntry := by
  have : s.ctl.op ≠ .parked := by
    intro e
    simp [State.running, e] at h
  unfold State.bring
  rw [if_pos h, hp, if_neg (fun e => this e.symm), if_pos rfl]

/-! ## The entry to PARKED -/

/-- Outside RETAINED the pins are driven alike in every operating state (R5, R19). -/
theorem pinDrive_op {s t : State} (hs : s.ctl.op ≠ .retained) (ht : t.ctl.op ≠ .retained)
    (h : t = { s with
      ctl := t.ctl
      scan := t.scan }) : t.pinDrive = s.pinDrive := by
  funext i
  rw [h]
  simp [State.pinDrive, hs, ht]
  rfl

/-- The rest of the entry once the close is taken, said whole (R161, R163). -/
theorem enterParked_eq_parkedFrozen {v : State} (h : v.ctl.op ≠ .retained) :
    (if v.enterParked.anySelected then v.enterParked.wake else v.enterParked) = v.parkedFrozen := by
  have hd : (({ v with ctl := { v.ctl with op := .parked } } : State).restartScan).pinDrive = v.pinDrive :=
    pinDrive_op h (by simp) rfl
  have he : v.enterParked = { v with
      ctl := { v.ctl with op := .parked }
      scan := { v.scan with
        timer :=
          if v.lines.any (fun l => l.function = .tach && l.sensing = .contact && l.wake) then
            some (2 * Config.scanTable.getD v.scan.parkIndex 0)
          else none }
      pins := { v.pins with
        frozen := true
        held := .ofFn fun i => v.pinDrive i } } := by
    rw [State.enterParked, State.freeze, hd]
    simp [State.restartScan, State.scanTimerPeriod, Line.isContact, scanPeriod]
  have hw : v.enterParked.wake = v.enterParked.awake := by
    rw [← wakeIfParked_eq_awake, State.wakeIfParked, if_pos (show v.enterParked.ctl.op = .parked from rfl)]
  rw [hw, State.parkedFrozen, ← he]
  rfl

/-- A close of a device with nothing outstanding, part by part (R24; log 6). -/
theorem closeEpoch_eq {s : State} (ho : s.outstanding = false) :
    s.closeEpoch = s.accrueAll.countDownLoads.restartCounters.bringDue.countClose := by
  rw [State.closeEpoch, settle_of_not_outstanding ho]

/-- A close leaves the State Controller (R24). -/
theorem closeEpoch_ctl {s : State} (ho : s.outstanding = false) : s.closeEpoch.ctl = s.ctl := by
  rw [closeEpoch_eq ho]
  simp [State.countClose, State.restartCounters, State.countDownLoads]

/-- A close takes up no motion report while no zone is HELD (R81). -/
theorem closeEpoch_reports {s : State} (ho : s.outstanding = false)
    (hh : ∀ z, (s.tickets.holds.get z).state ≠ .held) (z : Fin 8) : s.closeEpoch.tickets.reports.get z = false := by
  have hz : s.tickets.reports.get z = false := by
    by_contra h
    have : s.tickets.reports.any (fun b => b) = true :=
      (Table.any_iff s.tickets.reports fun b => b).mpr ⟨z, by simpa using h⟩
    simp [State.outstanding, this] at ho
  rw [closeEpoch_eq ho]
  simp [State.countClose, State.restartCounters, State.countDownLoads, State.accrueAll, hz, hh z]

/-- The entry to PARKED of a device that runs, holds nothing back and has nothing outstanding: what `Parking` says of
it is what holds after it (R161). -/
theorem parking_iff {s : State} (h : s.running = true) (ho : s.outstanding = false)
    (hh : ∀ z, (s.tickets.holds.get z).state ≠ .held) (P : State → Prop) : s.Parking P ↔ P s.parkEntry := by
  have hm : s.parkMarked.outstanding = false := ho
  have hr : ∀ z, s.parkMarked.closeEpoch.tickets.reports.get z = false := closeEpoch_reports hm hh
  have hf : ∀ l : List (Fin 8), l.foldl State.takeReportIf s.parkMarked.closeEpoch = s.parkMarked.closeEpoch := by
    intro l
    induction l with
    | nil => rfl
    | cons z l ih => simpa [State.takeReportIf, hr z] using ih
  have hv : s.parkMarked.closeEpoch.endWindowIf.ctl.op ≠ .retained := by
    have : s.parkMarked.closeEpoch.endWindowIf.ctl = s.ctl := by
      unfold State.endWindowIf
      split <;> simp [closeEpoch_ctl hm]
    intro e
    simp [State.running, ← this, e] at h
  have hp : s.parkEntry = s.parkMarked.closeEpoch.endWindowIf.parkedFrozen := by
    unfold State.parkEntry
    rw [settle_of_not_outstanding ho]
    have : s.parkMarked.closeEpoch.settle = s.parkMarked.closeEpoch.endWindowIf := by rw [State.settle, hf]
    rw [← enterParked_eq_parkedFrozen hv, ← this]
    rfl
  have hrun : s.parkMarked.closeEpoch.running = true := by simpa [State.running, closeEpoch_ctl hm] using h
  have hs : s.parkMarked.running = true := h
  unfold State.Parking exec execEpochClose execWindowEnd
  simp only [hs, if_true, Host.Outcome.next.injEq, exists_eq_left', hrun, ← hp]

/-! ## The passing of time -/

/-- A scan timer that has not run out only counts down (R11). -/
theorem tickScan_counts {s : State} {k : Nat} (h : s.scan.timer = some (k + 2)) :
    s.tickScan = { s with scan.timer := some (k + 1) } := by
  simp [State.tickScan, h]

/-- A scan timer that runs out makes a scan (R11). -/
theorem tickScan_scans {s : State} {k : Nat} (h : s.scan.timer = some k) (hk : k ≤ 1) :
    s.tickScan = s.scanContacts s.scan.contacts := by
  simp [State.tickScan, h, hk]

/-- Half a millisecond that ends no millisecond, or that the device did not run in, is the scan timer's alone (R11,
R26). -/
theorem tick_half {s : State} (h : s.half = false ∨ s.running = false) :
    s.tick = ({ s with half := !s.half } : State).tickScan := by
  unfold State.tick
  rcases h with h | h <;> simp [h]

end Sys2Proof.Machine
end

