-- ==== Sys2Proof/Tests/Slice0.lean ====
section
/-! SUPPORT. The model's own tests. Part 1: a term that each check of `WellFormed` refuses. Part 2: frames written out
from R181. Part 3: the spec's worked cases, one step each, the expected values copied from the spec's tables. Part 4:
for every statement with hypotheses, a state and operands that meet them. -/

open Sys2Proof Sys2Proof.Machine

namespace Sys2Proof.Tests

/-! ## Part 1. WellFormed -/

/-- 00h names NOP, so it is no code that names no command (R180). -/
theorem test_wellFormed_unknownCode : WellFormed (.unknownCode .a 0x00) = false := by decide

/-- 2Bh names no command (R180). -/
theorem test_wellFormed_unknownCode_free : WellFormed (.unknownCode .a 0x2B) = true := by decide

/-- A period of 48 bits is no frame error (R177). -/
theorem test_wellFormed_badFrame : WellFormed (.badFrame .a 48) = false := by decide

/-- No ticket bears the number 0 (R106). -/
theorem test_wellFormed_grantTimerExpiry : WellFormed (.grantTimerExpiry 0) = false := by decide

/-! ## Part 2. Frames and decoding -/

/-- LOAD, selector 2, value 4 is the frame 0A 02 00 00 00 04 (R181). -/
theorem test_frame_load : frameOf (.load .a 2 4) = some (.a, 0x0A0200000004) := by decide

/-- SET-LINE of the function (field 0) of SL9 to GATE (2) is 11 09 00 00 00 02 (R181, R184). -/
theorem test_frame_setLineFunction : frameOf (.setLineFunction .m 9 2) = some (.m, 0x110900000002) := by decide

/-- SET-LINE of the zone (field 8) of SL3 to Z5 is 11 03 08 00 00 05 (R181, R184). -/
theorem test_frame_setLineZone : frameOf (.setLineZone .m 3 5) = some (.m, 0x110308000005) := by decide

/-- SET-TABLE of a load weight (item 11), index 7, to 40 is 18 0B 07 00 00 28 (R181, R182). -/
theorem test_frame_setLoadWeight : frameOf (.setLoadWeight .m 7 40) = some (.m, 0x180B07000028) := by decide

/-- SET-ELEMENT of L (field 8) of E63 to 1048575 is 21 3F 08 0F FF FF (R181, R183). -/
theorem test_frame_setElementLimit : frameOf (.setElementLimit .m 63 1048575) = some (.m, 0x213F080FFFFF) := by decide

/-- PRESET-WEAR of E1 carries the whole value (R181). -/
theorem test_frame_presetWear : frameOf (.presetWear .m 1 0x12345678) = some (.m, 0x240112345678) := by decide

/-- The fields of a frame: byte 0 the code, byte 1 the selector, bytes 2 to 5 the value (R181). -/
theorem test_frame_fields : codeOf 0x0A0200000004 = 0x0A ∧ selectorOf 0x0A0200000004 = 2 ∧
    valueOf 0x0A0200000004 = 4 ∧ indexOf 0x08000005 = 8 ∧ fieldValueOf 0x08000005 = 5 := by decide

/-- The table gives no row any bits, so a table word spells no command (log 25). -/
theorem test_decodeTableWord : decodeTableWord 48 0x0A0200000004 = none := by decide

/-! ## Part 3. The spec's worked cases -/

/-- The state an outcome goes on to. -/
def after (o : Host.Outcome State Fault Refusal) : State :=
  match o with
  | .next t => t
  | .fault _ => State.reset
  | .refused _ => State.reset

/-- The staged answer of a port after a command. -/
def stagedAfter (c : Instr) (s : State) (p : Port) : Answer := ((after (exec c s)).ports.get p).staged

/-- The device with one line rewritten. -/
def withLine (s : State) (i : Fin 24) (l : Line) : State := { s with lines := s.lines.set i l }

/-- The device with one zone's settings rewritten. -/
def withZone (s : State) (z : Fin 8) (b : ZoneBook) : State :=
  { s with book := { s.book with zones := s.book.zones.set z b } }

/-- The device with one element record rewritten. -/
def withElement (s : State) (n : Fin 64) (e : Element) : State := { s with elements := s.elements.set n e }

/-- The device with one ticket in its table, and its zone's hold record. -/
def withTicket (s : State) (t : Ticket) (h : HoldRecord) : State :=
  { s with tickets := { s.tickets with table := [t], next := 2, holds := s.tickets.holds.set t.zone h } }

/-- The device in another operating state. -/
def withOp (s : State) (op : OpState) : State := { s with ctl := { s.ctl with op := op } }

/-- The device with chip select asserted on a port. -/
def selected (s : State) (p : Port) : State :=
  { s with ports := s.ports.set p { s.ports.get p with select := true } }

/-- A line that counts, its level established as inactive. -/
def tachLine (sensing : Sensing) (count : Nat) : Line :=
  { Line.cold with
    function := .tach
    sensing := sensing
    wake := true
    filtered := some false
    sample := some false
    count := count }

/-- Element E5 of spec/04, "One epoch of element E5". -/
def elementE5 : Element :=
  { Element.cold 5 with
    zone := 2
    tach := 6
    ppr := 4
    ratio := 96
    reference := some 9
    expected := 48
    tolerance := 20
    slipWeight := 32
    limit := 2000
    margin := 100
    wear := 100000
    carry := 10000
    residue := 3
    accumulator := 5200
    state := .fresh
    check := 36787 }

/-- The device of that case, SL6 handing `pulses` and SL9 handing 50, Z2 at class 5 by its fallback. -/
def deviceE5 (pulses : Nat) : State :=
  withZone
    (withElement (withLine (withLine State.reset 6 (tachLine .driven pulses)) 9 (tachLine .driven 50)) 5 elementE5)
    2 { ZoneBook.cold with fallback := 5 }

/-- spec/04, "One epoch of element E5". -/
theorem test_epochClose_E5 : (after (exec .epochClose (deviceE5 37))).elements.get 5 =
    { elementE5 with
      wear := 100022
      carry := 11856
      residue := 3
      accumulator := 5222
      check := 36809 } := by decide +kernel

/-- spec/04, "The same epoch with slip": the record, the zone sum and SLIP. -/
theorem test_epochClose_E5_slip :
    let t := after (exec .epochClose (deviceE5 33))
    t.elements.get 5 = { elementE5 with
      wear := 100040
      carry := 912
      accumulator := 5240
      slipCount := 1
      check := 36827 } ∧ t.history.sums.get 2 = 40 ∧ t.notices.a.events = 0x2008 := by decide +kernel

/-- Element E30 of spec/05, "One window end for a worn roller". -/
def elementE30 : Element :=
  { Element.cold 30 with
    limit := 2000
    margin := 100
    wear := 7900000
    accumulator := 86400
    rate := 1344000
    seeded := true
    state := .worn }

/-- The device of that case, a window end due. -/
def deviceE30 : State :=
  { withElement State.reset 30 elementE30 with window := { State.reset.window with remaining := 0 } }

/-- spec/05, "One window end for a worn roller". -/
theorem test_windowEnd_E30 : (after (exec .windowEnd deviceE30)).elements.get 30 =
    { elementE30 with
      accumulator := 0
      rate := 1348800
      projection := 4 } := by decide +kernel

/-- A window end numbers the record it appends and loads the next window (R29, R34). -/
theorem test_windowEnd_record :
    let t := after (exec .windowEnd deviceE30)
    t.history.ring.map WindowRecord.seq = [1] ∧ t.window = ⟨3600, 3600, 3600, 1⟩ := by decide

/-- spec/05: the projections T of the seven elements. -/
theorem test_projections : projectionOf 300000 100 144000 = 13 ∧ projectionOf 190000 50 80000 = 3 ∧
    projectionOf 0 80 0 = 65535 ∧ projectionOf 1000000 400 164000 = 63 ∧ projectionOf 246000 60 96000 = 0 ∧
    projectionOf 3000 200 48000 = 273 ∧ projectionOf 0 60 96000 = 41 := by decide

/-- spec/05, "The pace of a rate". -/
theorem test_rates : smoothedRate 0 100 3 = 200 ∧ smoothedRate 200 100 3 = 375 ∧ smoothedRate 375 100 3 = 528 ∧
    smoothedRate 528 100 3 = 662 ∧ smoothedRate 1000 0 3 = 875 ∧ smoothedRate 875 0 3 = 766 := by decide

/-- spec/04, "Crossing the margin and the limit": the states at L = 3, then 4, M = 1, then 0. -/
theorem test_states : derivedState 8150 3 1 = .fresh ∧ derivedState 8330 3 1 = .worn ∧
    derivedState 12330 3 1 = .due ∧ derivedState 12330 4 1 = .worn ∧ derivedState 12330 4 0 = .fresh := by decide

/-- Zone Z2 of spec/03, "WORKED LOAD CASE", after its step 0. -/
def deviceZ2 : State :=
  withZone State.reset 2 ⟨.both, 7, 3, ⟨2, 0, true⟩, ⟨4, 0, true⟩⟩

/-- spec/03, step 1: LOAD Z2 class 3 from A is answered DONE with 3. -/
theorem test_load_alone : stagedAfter (.load .a 2 3) deviceZ2 .a = ⟨.done, 0x0A, 3⟩ := by decide

/-- spec/03, step 3: with A at 3, LOAD Z2 class 5 from B is answered 5, the greater. -/
theorem test_load_both : stagedAfter (.load .b 2 5)
    (withZone State.reset 2 ⟨.both, 7, 3, ⟨3, 2, false⟩, ⟨4, 0, true⟩⟩) .b = ⟨.done, 0x0A, 5⟩ := by decide

/-- spec/03, step 5: at the close A's report lapses and B's counts down. -/
theorem test_epochClose_lapse :
    (after (exec .epochClose (withZone State.reset 2 ⟨.both, 7, 3, ⟨3, 1, false⟩, ⟨5, 2, false⟩⟩))).book.zones.get 2 =
      ⟨.both, 7, 3, ⟨3, 0, true⟩, ⟨5, 1, false⟩⟩ := by decide

/-- spec/03, step 8: the owner of Z2 becomes B; A's report stays lapsed, B's keeps its hold. -/
theorem test_setZoneOwner :
    (after (exec (.setZoneOwner .m 2 2)
      (withZone State.reset 2 ⟨.both, 7, 3, ⟨3, 0, true⟩, ⟨1, 2, false⟩⟩))).book.zones.get 2 =
      ⟨.b, 7, 3, ⟨3, 0, true⟩, ⟨1, 2, false⟩⟩ := by decide

/-- Line SL4 of spec/01, "WORKED COUNTING CASE", in QUIET. -/
def deviceSL4 (sample : Bool) (count : Nat) : State :=
  withOp (withLine State.reset 4 { tachLine .contact count with
    polarity := false
    sample := some sample }) .quiet

/-- spec/01, step 1: from inactive to active counts a pulse. -/
theorem test_contactScan_counts :
    let l := (after (exec (.contactScan 0) (deviceSL4 true 0))).lines.get 4
    l.count = 1 ∧ l.sample = some false := by decide

/-- spec/01, step 7: the park scan that counts a pulse wakes the device (step 8: its timer at 0.5 ms). -/
theorem test_contactScan_wakes :
    let t := after (exec (.contactScan 0) (withOp (deviceSL4 true 0) .parked))
    t.ctl.op = .active ∧ (t.lines.get 4).count = 1 ∧ t.scan.timer = some 1 := by decide

/-- spec/02, "WORKED TIMING CASE", step 3: a divider write 300 ms into the epoch closes it. -/
theorem test_setEpochDivider :
    let t := after (exec (.setEpochDivider .m 499) { State.reset with
      pacer := ⟨999, 300⟩
      window := ⟨4, 3, 4, 10⟩ })
    t.pacer = ⟨499, 0⟩ ∧ t.window = ⟨4, 2, 4, 10⟩ ∧ t.history.markers.divider = true := by decide

/-- spec/02, step 5: the votes give PARKED and the close ends window 11, which carries PARK. -/
theorem test_vote_parks :
    let s : State := { State.reset with
      pacer := ⟨499, 200⟩
      window := ⟨4, 1, 4, 10⟩
      ctl := { State.reset.ctl with votes := ⟨.park, .run, .run⟩ } }
    let t := after (exec (.vote .b 2) s)
    t.ctl.op = .parked ∧ t.window = ⟨4, 4, 4, 11⟩ ∧ t.pins.frozen = true ∧
      t.history.ring.map (fun r => (r.seq, r.loaded, r.markers.park)) = [(11, 4, true)] := by decide +kernel

/-- spec/10, "WORKED FRAME SEQUENCE", frame 3: GRANT of a FREE zone is refused NOT-REQUESTED. -/
theorem test_grant_free :
    stagedAfter (.grant .a 2) (withZone State.reset 2 { ZoneBook.cold with owner := .a }) .a = ⟨.notRequested, 0x0B, 0⟩ :=
  by decide

/-- spec/10, frame 4: 40 bits only; BAD-FRAME, FFh, 40. -/
theorem test_badFrame : stagedAfter (.badFrame .a 40) State.reset .a = ⟨.badFrame, 0xFF, 40⟩ := by decide

/-- spec/10, frame 5: SET-TABLE from a line port is NOT-PERMITTED. -/
theorem test_setEpochDivider_line :
    stagedAfter (.setEpochDivider .a 500) State.reset .a = ⟨.notPermitted, 0x18, 0⟩ := by decide

/-- spec/10, frame 6: 2Bh names no command. -/
theorem test_unknownCode : stagedAfter (.unknownCode .a 0x2B) State.reset .a = ⟨.unknown, 0x2B, 0⟩ := by decide

/-- spec/10, frame 7: READ-NOTICES returns START and FRAME, 40960, and removes them. -/
theorem test_readNotices :
    let s := after (exec (.badFrame .a 40) State.reset)
    stagedAfter (.readNotices .a 0) s .a = ⟨.done, 0x02, 40960⟩ ∧
      (after (exec (.readNotices .a 0) s)).pendingSet .a = 0 := by decide

/-- The check word of a COLD record is its number plus 338 (R85), which is the sum of R83. -/
theorem test_coldCheck : ∀ n : Fin 64, (Element.cold n).sum n = (Element.cold n).check := by decide

/-! One step of each rule that a worked case does not reach. -/

/-- A VKEEP lost while VMAIN stands above its trip level makes the marker lost when VMAIN falls, and the device then
makes a COLD start (R165, R167). -/
theorem test_supplyLoss_vkeepLow :
    let s := after (exec (.supplyLoss .vmain) (after (exec (.keepSupplyLoss true) State.reset)))
    s.ctl.op = .retained ∧ s.ctl.valid = false ∧
      (after (exec (.retainedExit true true) s)).ctl.startKind = .cold := by decide

/-- A VKEEP back in its range before VMAIN falls has had no effect (R165). -/
theorem test_supplyLoss_vkeepBack :
    (after (exec (.supplyLoss .vmain) (after (exec (.keepSupplyLoss false) (after (exec (.keepSupplyLoss true)
      State.reset)))))).ctl.valid = true := by decide

/-- The levels of a line record stand in RETAINED as they stood at the entry, and the start makes them NONE (R21, R22).
-/
theorem test_supplyLoss_keepsLevels :
    let s := after (exec (.supplyLoss .rstn) (deviceSL4 true 7))
    let t := after (exec (.retainedExit true true) s)
    ((s.lines.get 4).sampledLevel = some true ∧ (s.lines.get 4).count = 0) ∧
      (t.lines.get 4).sampledLevel = none ∧ (t.lines.get 4).filtered = none := by decide

/-- An edge lost at a full counter on a wake-enabled line raises OVERRUN and wakes a parked device (R8, log 21). -/
theorem test_levelFilterAccept_full :
    let t := after (exec (.levelFilterAccept 0 true) (withOp (withLine State.reset 0 (tachLine .driven 65535)) .parked))
    t.ctl.op = .active ∧ (t.lines.get 0).count = 65535 ∧ t.notices.m.events = 0x2A00 ∧ t.notices.a.events = 0x2800 := by
  decide

/-- A scan that wakes the device at the end of a millisecond begins an epoch of no millisecond yet (R26, R163). -/
theorem test_step_scanWakes :
    let s : State := { withOp (deviceSL4 true 0) .parked with
      half := true
      pacer := ⟨0, 0⟩
      scan := { State.reset.scan with timer := some 1 } }
    let t := after (step s)
    t.ctl.op = .active ∧ t.pacer = ⟨0, 0⟩ ∧ t.window.remaining = s.window.remaining := by decide

/-- The answer START with ATTN, 81h 00h, on the data-out pin, first bit first, and 0 after the last (R173, R176). -/
theorem test_dataOut :
    let s := after (exec (.frameBegin .a) State.reset)
    [0, 1, 6, 7, 8, 47, 48, 300].map (s.dataOut .a) =
      [some true, some false, some false, some true, some false, some false, some false, some false] ∧
    s.dataOut .b 0 = none := by decide

/-- The bits of a void frame are counted, 255 at most (R173, R178). -/
theorem test_voidFrameDiscard :
    let s : State := { State.reset with ports := State.reset.ports.set .b { Interface.cold 0 with
      select := true
      void := true } }
    [0, 47, 300].map (fun n => ((after (exec (.voidFrameDiscard .b n) s)).ports.get .b).bitCount) = [0, 47, 255] := by
  decide

/-- A fitted flag that takes the last RUN out of the count parks the device (R157, R158, R161). -/
theorem test_setFittedFlag_parks :
    let s : State := { State.reset with ctl := { State.reset.ctl with votes := ⟨.park, .run, .run⟩ } }
    let t := after (exec (.setFittedFlag .m .b 0) s)
    t.ctl.op = .parked ∧ t.history.markers.park = true ∧ t.pins.frozen = true := by decide +kernel

/-- The number after 255 is 1, and a number in use is stepped over (R107). -/
theorem test_openTicket_number :
    let s : State := { withElement State.reset 0 { Element.cold 0 with state := .fresh } with
      tickets := { State.reset.tickets with
        table := [255, 1].map fun k => ⟨k, 0, .planned, [], 0, false, false⟩
        next := 255 } }
    stagedAfter (.openTicket .m 0) s .m = ⟨.done, 0x30, 2⟩ ∧
      (after (exec (.openTicket .m 0) s)).tickets.next = 3 := by decide

/-! ## Part 4. States and operands that meet the hypotheses of the statements -/

/-- A parked device, frozen. -/
def parkedDevice : State := { withOp State.reset .parked with pins := { State.reset.pins with frozen := true } }

/-- A device in RETAINED. -/
def retainedDevice : State := { withOp State.reset .retained with scan := { State.reset.scan with timer := none } }

/-- Element 0 in use, FRESH. -/
def inUse : State := withElement State.reset 0 { Element.cold 0 with state := .fresh }

/-- Element 0 DUE and on the due list. -/
def dueDevice : State :=
  let e : Element := { Element.cold 0 with
    wear := 4096
    state := .due
    projection := 0 }
  { withElement State.reset 0 { e with check := e.sum 0 } with plan := { State.reset.plan with due := [0] } }

/-- Element 0 on ticket 1 in the given state, in zone 0 of the given owner and hold record. -/
def round (st : TicketState) (owner : Owner) (h : HoldRecord) : State :=
  withTicket (withZone inUse 0 { ZoneBook.cold with owner := owner })
    ⟨1, 0, st, [⟨0, .pending⟩], if st = .awaiting then 600000 else 0, decide (st = .working), false⟩ h

/-- A ticket that is planned, awaits a grant, works. -/
def planned : State := round .planned .a .cold

/-- See `planned`. -/
def awaiting : State := round .awaiting .a ⟨.requested, false, false, 1⟩

/-- See `planned`. -/
def working : State := round .working .a ⟨.held, true, false, 1⟩

/-- A zone of both owners that one of them has granted. -/
def halfGranted : State := round .awaiting .both ⟨.requested, true, false, 1⟩

/-- A device whose votes ask for PARKED and whose ticket holds it back. -/
def heldBackDevice : State :=
  { awaiting with ctl := { awaiting.ctl with
    op := .quiet
    votes := .all .park } }

/-- The same device, a hold in another zone standing as well. -/
def stillHeldDevice : State :=
  { heldBackDevice with tickets := { heldBackDevice.tickets with
    holds := heldBackDevice.tickets.holds.set 1 ⟨.requested, false, false, 1⟩ } }

/-- A device once ticket 1 is in the given state and the hold of its zone is gone. -/
def freed (d : State) (s : TicketState) : State :=
  { d with tickets := { d.tickets with
    table := d.tickets.table.map fun t => { t with state := s }
    holds := d.tickets.holds.set 0 .cold } }

/-- One record in each ring; port A on the last field, port B on the first, port M past newest. -/
def ringDevice : State :=
  { State.reset with
    window := ⟨3600, 3600, 3600, 1⟩
    history := { State.reset.history with ring := [⟨1, 3600, .ofFn fun _ => 0, .none⟩] }
    log := ⟨[⟨1, 0, 1, .renewed, 0, 1, 1⟩], 1⟩
    ports := ⟨{ Interface.cold 0 with
      history := .on 1 10
      log := .on 1 6 }, { Interface.cold 0 with
      history := .on 1 0
      log := .on 1 0 }, Interface.cold 0⟩ }

/-- A GATE line of zone 0 with wake enable, its filtered level as given. -/
def gateLine (filtered : Option Bool) : Line :=
  { Line.cold with
    function := .gate
    wake := true
    filtered := filtered }

theorem witness_CommandsAlwaysGo : ∃ t, exec (.nop .a) State.reset = .next t := ⟨_, rfl⟩

/-- A device half a millisecond before a whole one, its clocks as given, awaiting a grant. -/
def ticking (ms : Nat) (timer : Option Nat) (left : Nat) : State :=
  { withTicket (withZone inUse 0 { ZoneBook.cold with owner := .a })
      ⟨1, 0, .awaiting, [⟨0, .pending⟩], left, false, false⟩ ⟨.requested, false, false, 1⟩ with
    half := true
    pacer := ⟨999, ms⟩
    scan := { State.reset.scan with timer := timer } }

theorem witness_IdleIsTime :
    (retainedDevice.pending = [] ∧ retainedDevice.ctl.op = .retained) ∧
    (∀ s ∈ [deviceE30, { State.reset with tickets := { State.reset.tickets with
        reports := State.reset.tickets.reports.set 7 true } }],
      s.pending = [] ∧ s.running = true ∧ s.outstanding = true) ∧
    (∀ ms ∈ [998, 999], ∀ timer ∈ [none, some 0, some 1, some 2], ∀ left ∈ [1, 2],
      let s := ticking ms timer left
      s.pending = [] ∧ s.ctl.op ≠ .retained ∧ s.ctl.op ≠ .parked ∧ s.outstanding = false ∧ s.half = true ∧
        ∀ t ∈ s.tickets.table, t.number ≤ 255) ∧
    (∀ half ∈ [false, true],
      let s : State := { parkedDevice with half := half }
      s.pending = [] ∧ s.ctl.op = .parked ∧ s.outstanding = false) ∧
    State.reset.half = false := by decide

/-- A step from reset goes on, as the statements about every step suppose. -/
theorem witness_step : ∃ t, step State.reset = .next t := ⟨_, rfl⟩

theorem witness_StepKeepsRanges : inUse.ElementsBounded ∧ inUse.SettingsInRange := by decide

theorem witness_StepKeepsRecordsAgree : inUse.StatesDerived ∧ inUse.ChecksAgree ∧ dueDevice.StatesDerived ∧
    dueDevice.ChecksAgree := ⟨by decide, by decide, by decide, by decide⟩

theorem witness_StepKeepsDueInOrder : dueDevice.DueInOrder := by decide

/-- A statement about every port is one about the three of them. -/
theorem allPorts {P : Port → Prop} (ha : P .a) (hb : P .b) (hm : P .m) : ∀ p, P p
  | .a => ha
  | .b => hb
  | .m => hm

/-- A device that runs, with every chip select released. -/
theorem controlAgrees_round (st : TicketState) (o : Owner) (h : HoldRecord) : (round st o h).ControlAgrees :=
  ⟨allPorts (fun e => absurd e Bool.false_ne_true) (fun e => absurd e Bool.false_ne_true)
      (fun e => absurd e Bool.false_ne_true),
    allPorts (Nat.zero_le _) (Nat.zero_le _) (Nat.zero_le _),
    fun e => absurd (show OpState.active = .parked from e) (by decide),
    fun e => absurd (show OpState.active = .retained from e) (by decide), fun _ => ⟨rfl, rfl, rfl⟩,
    fun e => absurd e Bool.false_ne_true, Nat.zero_le _, Nat.le_of_ble_eq_true rfl, Nat.le_of_ble_eq_true rfl⟩

theorem witness_StepKeepsTicketsAgree : (working.TicketsAgree ∧ working.ControlAgrees) ∧
    awaiting.TicketsAgree ∧ awaiting.ControlAgrees := by
  refine ⟨⟨⟨?_, ?_, ?_, ?_, ?_, ?_, ?_, ?_⟩, controlAgrees_round _ _ _⟩,
    ⟨?_, ?_, ?_, ?_, ?_, ?_, ?_, ?_⟩, controlAgrees_round _ _ _⟩
  all_goals decide +kernel

theorem witness_StepKeepsLoadsAgree : deviceZ2.LoadsAgree := by decide

theorem witness_StepKeepsRings : ringDevice.HistoryRuns ∧ ringDevice.LogRuns := by
  have h1 : RingRuns 48 ringDevice.window.seq (ringDevice.history.ring.map WindowRecord.seq) :=
    ⟨by decide, trivial, by decide, by decide⟩
  have h2 : RingRuns 128 ringDevice.log.seq (ringDevice.log.ring.map ServiceRecord.seq) :=
    ⟨by decide, trivial, by decide, by decide⟩
  refine ⟨⟨h1, by decide, by decide, by decide, ?_, by decide, by decide⟩, h2, ?_⟩
  · intro p
    cases p
    · exact ⟨by decide, by decide⟩
    · exact ⟨by decide, by decide⟩
    · trivial
  · intro p
    cases p
    · exact ⟨by decide, by decide⟩
    · exact ⟨by decide, by decide⟩
    · trivial

/-- A device with a void frame under way on port B. -/
def voidDevice : State :=
  { State.reset with ports := State.reset.ports.set .b { Interface.cold 0 with
    select := true
    void := true } }

theorem witness_StepKeepsControl :
    parkedDevice.ControlAgrees ∧ retainedDevice.ControlAgrees ∧ voidDevice.ControlAgrees := by
  refine ⟨⟨?_, ?_, fun _ => ⟨by decide, ?_, by decide⟩, fun h => absurd h (by decide), by decide⟩,
    ⟨?_, ?_, fun h => absurd h (by decide), fun _ => ⟨by decide, by decide, by decide, ?_⟩, by decide⟩,
    ⟨?_, ?_, fun h => absurd h (by decide), fun h => absurd h (by decide), by decide⟩⟩
  all_goals exact allPorts (by decide) (by decide) (by decide)

theorem witness_WearOnlyGrows : inUse.ElementsBounded ∧ (∃ t, exec .epochClose inUse = .next t) ∧
    (inUse.elements.get 0).inUse = true := ⟨by decide, ⟨_, rfl⟩, by decide⟩

theorem witness_FrameRunsCommand :
    (∀ c ∈ [Instr.vote .a 1, .readLines .a 5], (frameOf c).map Prod.fst = some .a ∧ WellFormed c = true) ∧
    ((selected State.reset .a).ports.get .a).select = true := by decide

theorem witness_FirstChecks :
    State.reset.Taking .a ∧ parkedDevice.Taking .a ∧ WellFormed (.unknownCode .a 0xFF) = true ∧
    (selected State.reset .a).Taking .a ∧ ((selected State.reset .a).ports.get .a).select = true ∧
    sendersOf (codeOf 0x2B0000000000) = none ∧ sendersOf (codeOf 0x180000000000) = some .maintenance ∧
    Senders.maintenance.permit .a = false ∧ frameOf (.clearAll .a) = some (.a, 0x7F0000000000) ∧
    sendersOf (codeOf 0x7F0000000000) = some .maintenance ∧ Senders.line.permit .m = false := by decide

theorem witness_NothingReceived :
    retainedDevice.ctl.op = .retained ∧ retainedDevice.scan.timer = none ∧
    frameOf (.nop .a) = some (.a, 0x000000000000) ∧ voidDevice.ctl.op ≠ .retained ∧
    (voidDevice.ports.get .b).void = true ∧ (voidDevice.ports.get .b).select = true := by decide

theorem witness_FrameError : State.reset.Taking .a ∧ (selected State.reset .a).Taking .a ∧
    ((selected State.reset .a).ports.get .a).select = true ∧ ∀ edges ∈ [0, 47, 49, 255, 256], edges ≠ 48 := by decide

theorem witness_FrameBeginsAndIsTaken :
    (selected State.reset .b).ctl.op ≠ .retained ∧ ((selected State.reset .b).ports.get .b).select = true ∧
    parkedDevice.ctl.op ≠ .retained ∧ (parkedDevice.ports.get .b).select = false ∧ parkedDevice.Taking .b ∧
    (selected State.reset .b).Taking .b ∧ codeOf 0x000000000000 = 0x00 ∧ retainedDevice.ctl.op = .retained ∧
    ∀ falls ∈ [0, 47, 48, 49], falls < 48 ∨ 48 ≤ falls := by decide

/-- A port from which a command is taken, on a device that runs and on one that is parked. -/
theorem witness_Taking : State.reset.Taking .a ∧ State.reset.Taking .b ∧ State.reset.Taking .m ∧
    parkedDevice.Taking .a ∧ parkedDevice.Taking .b ∧ parkedDevice.Taking .m := by decide

theorem witness_ReadStatusParts : 2 < (3 : Byte).toNat ∧ 2 < (255 : Byte).toNat := by decide

theorem witness_NoticeCommands : 2 < (3 : Byte).toNat ∧ (65535 : Word).toNat ≤ 65535 ∧ 65535 < (65536 : Word).toNat ∧
    ((2 : Byte).toNat, Port.m) ∈ [(0, Port.a), (1, Port.b), (2, Port.m)] := by decide

theorem witness_ConditionsAndAttention : State.reset.ctl.op ≠ .retained ∧ retainedDevice.ctl.op = .retained := by decide

theorem witness_UnfreezeAndPinDrive :
    (parkedDevice.Taking .a ∧ (parkedDevice.received .a).pins.frozen = true) ∧
    (State.reset.received .a).pins.frozen = false ∧ retainedDevice.ctl.op = .retained ∧
    (parkedDevice.ctl.op ≠ .retained ∧ parkedDevice.pins.frozen = true) ∧
    (State.reset.ctl.op ≠ .retained ∧ State.reset.pins.frozen = false ∧ Line.cold.function = .plain ∧
      Line.cold.direction = .input ∧ Line.cold.float = false ∧ Line.cold.pullUp = true) ∧
    ((awaiting.tickets.holds.get 0).state ≠ .free ∧ (awaiting.owner 0).has .a = true ∧
      (State.reset.tickets.holds.get 0).state = .free) ∧
    (∃ t ∈ working.tickets.table, t.zone = 0 ∧ t.state = .working) ∧
    (((dueDevice.elements.get 0).zone = 0 ∧ (dueDevice.elements.get 0).state = .due) ∧
      ({ dueDevice with blink := 499 } : State).blink < 500 ∧ ¬({ dueDevice with blink := 500 } : State).blink < 500) :=
  by decide

theorem witness_VoteBringsState :
    let r := State.reset.received .b
    (State.reset.Taking .b ∧ ∀ v ∈ [Vote.run, .pause, .park],
      ({ r.ctl with votes := r.ctl.votes.set .b v } : Control).requested ≠ .parked) ∧
    (let r := heldBackDevice.received .b
    heldBackDevice.Taking .b ∧ ({ r.ctl with votes := r.ctl.votes.set .b .park } : Control).requested = .parked ∧
      r.heldBack = true) ∧ 2 < (3 : Word).toNat ∧
    (∀ side ∈ [Side.a, .b],
      let r := State.reset.received .m
      let c : Control := match side with
        | .a => { r.ctl with fittedA := false }
        | .b => { r.ctl with fittedB := false }
      State.reset.Taking .m ∧ c.requested ≠ .parked) ∧
    (let r := heldBackDevice.received .m
    heldBackDevice.Taking .m ∧ ({ r.ctl with fittedA := false } : Control).requested = .parked ∧
      r.heldBack = true) := by decide

/-- A device about to park: the votes of ports A and M stand at PARK, that of port B at RUN. -/
def parkingDevice : State :=
  { State.reset with ctl := { State.reset.ctl with votes := ⟨.park, .run, .park⟩ } }

theorem witness_ParkEntry :
    (∀ s ∈ [parkingDevice, selected parkingDevice .a],
      let r := s.received .b
      s.Taking .b ∧ ({ r.ctl with votes := r.ctl.votes.set .b .park } : Control).requested = .parked ∧
        r.heldBack = false ∧ r.outstanding = false) ∧
    (let r := parkingDevice.received .m
    parkingDevice.Taking .m ∧ ({ r.ctl with fittedB := false } : Control).requested = .parked ∧ r.heldBack = false ∧
      r.outstanding = false) ∧
    (let s : State := { parkingDevice with ctl := { parkingDevice.ctl with
      fittedA := false
      votes := ⟨.run, .park, .run⟩ } }
    let r := s.received .m
    s.Taking .m ∧ ({ r.ctl with fittedA := false } : Control).requested = .parked ∧ r.heldBack = false ∧
      r.outstanding = false) ∧
    (let s : State := { parkingDevice with ctl := { parkingDevice.ctl with
      fittedA := true
      fittedB := false
      votes := ⟨.park, .run, .run⟩ } }
    let r := s.received .m
    s.Taking .m ∧ ({ r.ctl with fittedA := true } : Control).requested = .parked ∧ r.heldBack = false) := by decide

theorem witness_SettingsStored : (65535 : Word).toNat ≤ 65535 ∧ (15 : Word).toNat ≤ 15 ∧
    (withOp State.reset .quiet).Taking .m ∧ (7 : FieldValue).toNat ≤ 7 ∧ (255 : FieldValue).toNat ≤ 255 ∧
    (65535 : FieldValue).toNat ≤ 65535 := by decide

theorem witness_WriteRefusals :
    65535 < (65536 : Word).toNat ∧ 1 < (2 : Word).toNat ∧ 15 < (16 : Word).toNat ∧ 7 < (8 : Byte).toNat ∧
    3 < (4 : FieldValue).toNat ∧ 7 < (8 : FieldValue).toNat ∧ 255 < (256 : FieldValue).toNat ∧
    65535 < (65536 : FieldValue).toNat ∧ (selected State.reset .m).Taking .m ∧
    (codeOf 0x180100000000 = 0x18 ∧ (selectorOf 0x180100000000).toNat ∈ [1, 3, 4, 9, 10]) ∧
    (codeOf 0x181500000000 = 0x18 ∧ 20 < (selectorOf 0x181500000000).toNat) ∧ 23 < (24 : Byte).toNat ∧
    1 < (2 : FieldValue).toNat ∧ 4 < (5 : FieldValue).toNat ∧ 63 < (64 : Byte).toNat ∧
    (23 < (254 : FieldValue).toNat ∧ (254 : FieldValue).toNat ≠ 255) ∧ (0 : FieldValue).toNat = 0 ∧
    4095 < (4096 : FieldValue).toNat ∧ 1048575 < (1048576 : FieldValue).toNat ∧
    (codeOf 0x11000A000000 = 0x11 ∧ 9 < (indexOf (valueOf 0x11000A000000)).toNat) ∧
    (codeOf 0x21000A000000 = 0x21 ∧ 9 < (indexOf (valueOf 0x21000A000000)).toNat) := by decide

theorem witness_DividerClosesEpoch : State.reset.Taking .m ∧ (State.reset.received .m).outstanding = false := by decide

theorem witness_DueListInOrder : dueDevice.DueInOrder ∧ dueDevice.ctl.op ≠ .retained ∧ dueDevice.plan.due ≠ [] := by decide

theorem witness_OwnerWrite :
    (∀ v ∈ [(0, Owner.nobody), (3, .both)], ((BitVec.ofNat 24 v.1).toNat, v.2) ∈
      [(0, Owner.nobody), (1, .a), (2, .b), (3, .both)]) ∧
    awaiting.Taking .m ∧ ((awaiting.received .m).tickets.holds.get 0).state ≠ .free ∧
    ((State.reset.received .m).tickets.holds.get 7).state = .free := by decide

theorem witness_LoadReplacesReport :
    (∀ x ∈ [false, true], ∀ y ∈ [false, true], ∀ o ∈ [Owner.nobody, .a, .b, .both],
      let b : ZoneBook := ⟨o, 7, 30, ⟨3, if x then 0 else 1, x⟩, ⟨5, if y then 0 else 1, y⟩⟩
      b.owner = o ∧ b.reportA.lapsed = x ∧ b.reportB.lapsed = y) ∧
    7 < (8 : Byte).toNat ∧ 7 < (8 : Word).toNat ∧ (7 : Word).toNat ≤ 7 ∧
    (((State.reset.received .a).book.zones.get 2).owner.has .a = false) ∧ deviceZ2.Taking .b ∧
    (((deviceZ2.received .b).book.zones.get 2).owner.has .b = true) := by decide

theorem witness_GrantAndRevoke :
    7 < (8 : Byte).toNat ∧ (State.reset.owner 0).has .a = false ∧
    ((planned.owner 0).has .a = true ∧ (planned.tickets.holds.get 0).state = .free) ∧
    (let h := halfGranted.tickets.holds.get 0
    (halfGranted.owner 0).has .a = true ∧ h.state ≠ .free ∧ h.state ≠ .held ∧ h.grant .a = true ∧ h.grant .b = false ∧
      (halfGranted.owner 0).allGranted { h with grantB := true } = true) ∧
    (let s := round .awaiting .both ⟨.requested, false, false, 1⟩
    let h := s.tickets.holds.get 0
    h.grant .a = false ∧ (s.owner 0).allGranted { h with grantA := true } = false) ∧
    (let h := working.tickets.holds.get 0
    (working.owner 0).has .a = true ∧ h.grant .a = true ∧ h.state = .held) ∧
    (halfGranted.received .a).owner 0 = .both ∧ working.Taking .a := by decide

theorem witness_MotionReportDropsHold :
    ∀ h ∈ [HoldState.free, .requested, .held], ∀ o ∈ [Owner.nobody, .a],
      let s := round .planned o ⟨h, false, false, 1⟩
      let t : State := { s with tickets := { s.tickets with reports := s.tickets.reports.set 0 true } }
      s.running = true ∧ s.tickets.reports.get 0 = false ∧ t.running = true ∧ t.tickets.reports.get 0 = true ∧
        (t.tickets.holds.get 0).state = h ∧ t.owner 0 = o := by decide

theorem witness_ExpiryStalls :
    (State.reset.running = true ∧ State.reset.ticket? (1 : Byte).toNat = none) ∧
    ((planned.ticket? (1 : Byte).toNat).map Ticket.state = some .planned) ∧
    ((awaiting.ticket? (1 : Byte).toNat).map Ticket.state = some .awaiting ∧
      (awaiting.tickets.holds.get 0).demand = 1 ∧ awaiting.ctl.requested = awaiting.ctl.op) ∧
    (let s := round .awaiting .a ⟨.requested, false, false, 2⟩
    (s.ticket? (1 : Byte).toNat).map Ticket.state = some .awaiting ∧ 1 < (s.tickets.holds.get 0).demand) ∧
    (heldBackDevice.running = true ∧ heldBackDevice.ctl.requested = .parked ∧
      (heldBackDevice.ticket? (1 : Byte).toNat).map Ticket.state = some .awaiting ∧
      (heldBackDevice.tickets.holds.get 0).demand = 1 ∧
      ∀ z, z ≠ 0 → (heldBackDevice.tickets.holds.get z).state = .free) ∧
    (∀ s ∈ [heldBackDevice, stillHeldDevice],
      (s.ticket? (1 : Byte).toNat).map Ticket.state = some .awaiting ∧ (s.tickets.holds.get 0).demand = 1 ∧
        s.ctl.requested = .parked ∧ s.outstanding = false) ∧
    (freed heldBackDevice .stalled).heldBack = false ∧ (freed stillHeldDevice .stalled).heldBack = true :=
  by decide

theorem witness_ExpiryStalls_agree : heldBackDevice.TicketsAgree := by
  refine ⟨?_, ?_, ?_, ?_, ?_, ?_, ?_, ?_⟩
  all_goals decide +kernel

theorem witness_OpenTicketAndAddItem :
    63 < (64 : Byte).toNat ∧ 63 < (64 : Word).toNat ∧
    (8 ≤ (List.replicate 8 (Ticket.mk 1 0 .planned [] 0 false false)).length) ∧
    ((State.reset.received .m).elements.get 63).state = .idle ∧
    (planned.Taking .m ∧ (planned.received .m).onTicket 0 = true ∧
      (planned.ticket? (1 : Byte).toNat).map Ticket.state = some .planned ∧ planned.ticket? (2 : Byte).toNat = none) ∧
    (let r := inUse.received .m
    r.tickets.table.length < 8 ∧ 1 ≤ r.tickets.next ∧ r.tickets.next ≤ 255 ∧ (r.elements.get 0).state ≠ .idle ∧
      r.onTicket 0 = false) ∧
    (let s : State := { planned with tickets := { planned.tickets with next := 1 } }
    let r := s.received .m
    r.tickets.next ∈ r.tickets.table.map Ticket.number ∧ 2 ∉ r.tickets.table.map Ticket.number) ∧
    (working.ticket? (1 : Byte).toNat).map Ticket.state = some .working ∧
    (∀ z ∈ [(0 : Fin 8), 1],
      let s := withElement planned 1 { Element.cold 1 with
        state := .fresh
        zone := z }
      (s.elements.get 1).state ≠ .idle ∧ s.onTicket 1 = false ∧ (s.elements.get 1).zone = z ∧
        (s.ticket? (1 : Byte).toNat).map (fun t => t.items.length) = some 1) := by decide

/-- A ticket with its six items. -/
theorem witness_AddItem_full :
    let t : Ticket := ⟨1, 0, .planned, (List.range 6).map fun k => ⟨Fin.ofNat 64 k, .pending⟩, 0, false, false⟩
    let s := withElement (withTicket inUse t .cold) 63 { Element.cold 63 with state := .fresh }
    s.ticket? (1 : Byte).toNat = some t ∧ 6 ≤ t.items.length ∧ s.onTicket 63 = false ∧
      (s.elements.get 63).zone = t.zone := by decide

theorem witness_StartTicketAsks :
    State.reset.ticket? (1 : Byte).toNat = none ∧
    (awaiting.ticket? (1 : Byte).toNat).map Ticket.state = some .awaiting ∧
    (∀ st ∈ [TicketState.planned, .stalled],
      let s := round st .a .cold
      s.Taking .m ∧ ((s.received .m).ticket? (1 : Byte).toNat).map Ticket.state = some st ∧
        (s.received .m).ctl.requested = (s.received .m).ctl.op ∧ (s.tickets.holds.get 0).state = .free ∧
        s.owner 0 ≠ .nobody) ∧
    (let s := round .planned .nobody .cold
    (s.tickets.holds.get 0).state = .free ∧ s.owner 0 = .nobody ∧ s.ctl.requested = s.ctl.op) := by decide

theorem witness_RenewAndInspect :
    63 < (64 : Word).toNat ∧ State.reset.ticket? (1 : Byte).toNat = none ∧
    (awaiting.ticket? (1 : Byte).toNat).map Ticket.state = some .awaiting ∧ working.Taking .m ∧
    (∃ t ∈ (working.received .m).ticket? (1 : Byte).toNat, t.state = .working ∧ t.accessSeen = false ∧
      (∀ i ∈ t.items, i.element ≠ 63) ∧ t.items.find? (fun i => i.element = 0) = some ⟨0, .pending⟩ ∧
      ∀ k, (working.lines.get k).function = .gate → (working.lines.get k).zone ≠ t.zone) ∧
    (let s := withLine working 23 (gateLine none)
    (∃ k, (s.lines.get k).function = .gate ∧ (s.lines.get k).zone = 0) ∧
      ((s.received .m).ticket? (1 : Byte).toNat).map Ticket.accessSeen = some false) ∧
    (let t : Ticket := ⟨1, 0, .working, [⟨0, .renewed⟩], 0, true, true⟩
    t.state = .working ∧ (t.items.find? fun i => i.element = 0) = some ⟨0, .renewed⟩ ∧
      (withTicket working t ⟨.held, true, false, 1⟩).ticket? (1 : Byte).toNat = some t) := by decide

theorem witness_CloseTicketRemoves :
    State.reset.ticket? (1 : Byte).toNat = none ∧
    (∀ st ∈ [TicketState.planned, .awaiting, .working, .stalled], ∀ d ∈ [1, 2],
      let s := round st .a ⟨.requested, false, false, d⟩
      s.Taking .m ∧ ((s.received .m).ticket? (1 : Byte).toNat).map Ticket.state = some st ∧
        ((s.received .m).tickets.holds.get 0).demand = d ∧ (s.received .m).ctl.requested = (s.received .m).ctl.op) ∧
    (∀ s ∈ [heldBackDevice, stillHeldDevice],
      let r := s.received .m
      s.Taking .m ∧ (r.ticket? (1 : Byte).toNat).map Ticket.state = some .awaiting ∧
        (r.tickets.holds.get 0).demand = 1 ∧ r.ctl.requested = .parked ∧ r.outstanding = false) ∧
    (let gone (d : State) : State := { d with tickets := { d.tickets with
      table := []
      holds := d.tickets.holds.set 0 .cold } }
    (gone heldBackDevice).heldBack = false ∧ (gone stillHeldDevice).heldBack = true) := by decide

/-- The close of the last ticket that held the device back parks it at that moment (R159, R160, R161). -/
theorem test_closeTicket_parks :
    let t := after (exec (.closeTicket .m 1) heldBackDevice)
    t.ctl.op = .parked ∧ t.history.markers.park = true ∧ (t.ports.get .m).staged = ⟨.done, 0x35, 0⟩ := by
  decide +kernel

theorem witness_ReadLinesLevels :
    (let s := withLine (withLine State.reset 0 (tachLine .contact 0)) 1 { tachLine .contact 0 with sample := none }
    s.Taking .a ∧ (s.lines.get 0).function = .tach ∧ (s.lines.get 0).sensing = .contact ∧
      (s.lines.get 0).sample = some false ∧ (s.lines.get 1).sample = none) ∧
    (let s := withLine State.reset 23 { Line.cold with direction := .output }
    (s.lines.get 23).function ≠ .tach ∧ (s.received .a).pinDrive 23 = some true) ∧
    (State.reset.received .a).pinDrive 23 = none := by decide

theorem witness_LineRoleWritten :
    (∀ z, ¬({ Line.cold with function := .tach }.function = LineFunction.gate ∧ Line.cold.zone = z)) ∧
    (let l := { gateLine (some true) with function := .plain }
    (l.function ≠ .gate ∧ ({ l with function := .gate } : Line).filtered = some l.polarity ∧ l.zone = 0) ∧
      (withLine State.reset 0 l).Taking .m ∧ ((State.reset.received .m).tickets.holds.get 0).state ≠ .held ∧
      ((withLine working 0 l).received .m).tickets.holds.get 0 = ⟨.held, true, false, 1⟩) := by decide

theorem witness_RecordAndTableReads : 23 < (24 : Byte).toNat ∧ 11 < (12 : Word).toNat ∧ 63 < (64 : Byte).toNat ∧
    21 < (22 : Word).toNat ∧ 20 < (21 : Byte).toNat ∧ (6 ≤ (6 : Byte).toNat ∧ (13 : Byte).toNat ≤ 13) ∧
    7 < (8 : Byte).toNat := by decide

theorem witness_PlanZoneAndTicketReads :
    (dueDevice.received .a).plan.due[0]? = some 0 ∧ dueDevice.plan.due.length ≤ 63 ∧ 63 < (64 : Byte).toNat ∧
    1 < (2 : Word).toNat ∧ 7 < (8 : Byte).toNat ∧
    (let numbers := (planned.received .a).tickets.table.map Ticket.number
    numbers.Nodup ∧ 1 ∈ numbers ∧ (numbers.countP fun k => k < 1) ≤ 7 ∧ numbers.length ≤ 7) ∧
    8 < (9 : Word).toNat ∧ (2 : Byte) ≠ 0 ∧ 7 < (8 : Word).toNat ∧ (7 : Word).toNat ≤ 7 ∧
    (planned.received .a).ticket? (2 : Byte).toNat = none ∧
    (∃ t ∈ (planned.received .a).ticket? (1 : Byte).toNat, t.items[0]? = some ⟨0, .pending⟩ ∧ t.items.length ≤ 5) := by
  decide

theorem witness_RingReads :
    ringDevice.Taking .a ∧ ((ringDevice.received .a).ports.get .a).history = .on 1 10 ∧
    ((ringDevice.received .b).ports.get .b).history = .on 1 0 ∧ ((ringDevice.received .m).ports.get .m).history = .past ∧
    ((ringDevice.received .a).ports.get .a).log = .on 1 6 ∧ ((ringDevice.received .b).ports.get .b).log = .on 1 0 ∧
    ((ringDevice.received .m).ports.get .m).log = .past ∧ ringDevice.history.ring.map WindowRecord.seq = [1] ∧
    ringDevice.log.ring.map ServiceRecord.seq = [1] ∧ ringDevice.history.mode = .stop ∧
    ({ ringDevice.history with mode := HistoryMode.cycle } : ZoneHistory).mode = .cycle ∧ 1 < (2 : Byte).toNat ∧
    3 < (4 : Byte).toNat := by decide

theorem witness_RewindClearAndMark :
    (State.reset.received .a).history.ring = [] ∧ (State.reset.received .a).log.ring = [] ∧
    (ringDevice.received .a).history.ring ≠ [] ∧ (ringDevice.received .a).log.ring ≠ [] ∧ Port.a ≠ .m := by decide

theorem witness_ElementFieldStored :
    State.reset.Taking .m ∧ 1048575 < 2 ^ 24 ∧
    ({ Element.cold 63 with tach := 0, residue := 0 } = Element.cold 63) ∧
    ({ Element.cold 63 with tach := 23 } ≠ Element.cold 63) ∧ planned.Taking .m ∧
    (planned.received .m).onTicket 0 = true ∧ (planned.received .m).onTicket 63 = false := by decide

theorem witness_LimitAndMarginStored :
    ({ Element.cold 0 with limit := 1 } = Element.cold 0) ∧ ({ Element.cold 0 with limit := 1048575 } ≠ Element.cold 0) ∧
    (Element.cold 0).state = .idle ∧ inUse.Taking .m ∧ ((inUse.received .m).elements.get 0).state ≠ .idle ∧
    ((inUse.received .m).elements.get 0).state ≠ .suspect := by decide

theorem witness_StateAndProjection : 1 * 4096 ≤ 4096 ∧ 4095 < 1 * 4096 ∧
    projectionOf 4095 1 1 < 65535 ∧ projectionOf 0 1048575 1 = 65535 := by decide

theorem witness_EnableAndAccept :
    (inUse.elements.get 0).state ≠ .idle ∧ (State.reset.elements.get 0).state = .idle ∧
    (Element.cold 0).inRange = true ∧ ({ Element.cold 0 with tach := 24 } : Element).inRange = false ∧
    (let s := withElement State.reset 0 { Element.cold 0 with state := .suspect }
    s.Taking .m ∧ ((s.received .m).elements.get 0).state = .suspect) := by decide

theorem witness_DisableAndPreset :
    (planned.received .m).onTicket 0 = true ∧ (inUse.received .m).onTicket 0 = false ∧
    ((inUse.received .m).elements.get 0).state ≠ .idle ∧ ((State.reset.received .m).elements.get 0).state = .idle ∧
    63 < (64 : Byte).toNat := by decide

theorem witness_TachEdgeCounts :
    State.reset.ctl.op ≠ .retained ∧ (tachLine .driven 0).filtered = some false ∧
    (Line.cold.filtered ≠ some true ∧ Line.cold.function ≠ .gate) ∧
    (∀ n ∈ [65534, 65535], (tachLine .driven n).function = .tach ∧ (tachLine .driven n).sensing = .driven ∧
      (tachLine .driven n).filtered = some !true ∧ true = (tachLine .driven n).polarity ∧
      (tachLine .driven n).count = n) ∧ ({ tachLine .driven 65535 with wake := false } : Line).wake = false := by decide

theorem witness_GateOpens :
    (∀ f ∈ [none, some false], (gateLine f).function = .gate ∧ (gateLine f).filtered ≠ some true ∧
      true = (gateLine f).polarity) ∧
    ((gateLine (some true)).filtered ≠ some false ∧ false ≠ (gateLine (some true)).polarity) ∧
    (State.reset.tickets.holds.get 0).state ≠ .held ∧ (working.tickets.holds.get 0).state = .held := by decide

theorem witness_ScanAndBlink :
    retainedDevice.scan.timer = none ∧ State.reset.scan.timer ≠ none ∧
    (let l := (deviceSL4 true 65535).lines.get 4
    l.function = .tach ∧ l.sensing = .contact ∧ l.wake = true ∧ l.sample = some !l.polarity ∧
      (0 : Pins).getLsbD 4 = l.polarity ∧ l.count = 65535) ∧
    (withOp (deviceSL4 true 0) .parked).ctl.op = .parked ∧ ((deviceSL4 false 0).lines.get 4).sample = some false ∧
    ({ State.reset with blink := 499 } : State).blink < 500 ∧ 500 ≤ ({ State.reset with blink := 500 } : State).blink :=
  by decide

theorem witness_EpochCloseAccrues :
    (∀ p ∈ [33, 37], (deviceE5 p).running = true ∧ (deviceE5 p).outstanding = false ∧
      ((deviceE5 p).elements.get 5).tach = (6 : Fin 24).val ∧ ((deviceE5 p).elements.get 5).state = .fresh ∧
      ((deviceE5 p).lines.get 6).function = .tach ∧ ((deviceE5 p).elements.get 5).reference = some (9 : Fin 24).val ∧
      ((deviceE5 p).lines.get 9).function = .tach ∧ 8 ≤ ((deviceE5 p).lines.get 9).count * 48 / 64) ∧
    37 * 20 < (37 - 33) * 256 ∧ ¬37 * 20 < (37 - 37) * 256 ∧ (State.reset.elements.get 5).state = .idle := by decide

theorem witness_SpeedBandChosen :
    (64 ≤ (State.reset.bands.get 0).bound) ∧
    (65 ≤ (State.reset.bands.get 1).bound ∧ ∀ j, j < (1 : Fin 8) → (State.reset.bands.get j).bound < 65) ∧
    (∀ i, (State.reset.bands.get i).bound < 65536) ∧ (Element.cold 0).rev64 0 = 0 := by decide

theorem witness_EpochCloseCounts : (deviceE5 37).running = true ∧ (deviceE5 37).outstanding = false ∧
    ∀ n, ((deviceE5 37).elements.get n).tach ≤ 23 := by decide

theorem witness_WindowEndFormsRates : State.reset.running = true ∧ State.reset.window.remaining ≠ 0 ∧
    deviceE30.running = true ∧ deviceE30.window.remaining = 0 ∧ (deviceE30.elements.get 30).seeded = true ∧
    (inUse.elements.get 0).seeded = false := by decide

theorem witness_WarmAndSoftStart : State.reset.Taking .m ∧ (State.reset.received .m).outstanding = false ∧
    retainedDevice.ctl.op = .retained ∧ retainedDevice.ctl.valid = true := by decide

theorem witness_ColdStart :
    let s : State := { retainedDevice with ctl := { retainedDevice.ctl with valid := false } }
    s.ctl.op = .retained ∧ s.ctl.valid = false := by decide

theorem witness_SupplyLossAndEvents :
    State.reset.ctl.op ≠ .retained ∧ State.reset.outstanding = false ∧ retainedDevice.ctl.op = .retained ∧
    retainedDevice.ctl.valid = true ∧ (retainedDevice.elements.get 0).state = .idle ∧
    (let e : Element := { Element.cold 0 with
      state := .fresh
      wear := 1 }
    e.sum 0 ≠ e.check) := by decide

end Sys2Proof.Tests
end

/-! PROOF. The commands that rewind and clear the rings, and SHIFT-MARK (R33, R37, R38, R141): what a cursor rewound
comes to, who may send each command, and the next state of each; then the statement, assembled from them. -/

namespace Sys2Proof.Machine

/-! ## Cursors and senders -/

/-- Rewound in an empty ring a cursor stands past newest (R37, R141). -/
@[simp] theorem rewound_nil {α : Type} (seqOf : α → Nat) : rewound seqOf [] = .past := rfl

/-- Rewound in a ring that holds a record a cursor stands on field 0 of the oldest (R37, R141). -/
@[simp] theorem rewound_cons {α : Type} (seqOf : α → Nat) (w : α) (rest : List α) :
    rewound seqOf (w :: rest) = .on (seqOf w) 0 := rfl

/-- A line port may send a line command (R180). -/
theorem line_permit_of_ne {p : Port} (h : p ≠ .m) : Senders.line.permit p = true := by
  cases p with
  | a => rfl
  | b => rfl
  | m => exact absurd rfl h

/-- A line port may not send a maintenance command (R180). -/
theorem maintenance_permit_of_ne {p : Port} (h : p ≠ .m) : Senders.maintenance.permit p = false := by
  cases p with
  | a => rfl
  | b => rfl
  | m => exact absurd rfl h

/-- A command taken from a sender that R180 does not permit is answered NOT-PERMITTED, and that is all (R179). -/
theorem frameCommand_notPermitted {s : State} {p : Port} {code : Byte} (effect : State → Taken) {who : Senders}
    (h : s.Taking p) (hc : sendersOf code = some who) (hw : who.permit p = false) :
    s.frameCommand p code effect = (s.received p).answering p code .notPermitted 0 := by
  rw [frameCommand_taking code effect h, takeCommand_notPermitted effect hc hw]

/-! ## The commands -/

section
variable {p : Port} {s : State}

/-- REWIND-HISTORY from any port: its cursor is rewound (R37). -/
theorem exec_rewindHistory (h : s.Taking p) :
    exec (.rewindHistory p) s = .next (((s.received p).setHistoryCursor p
      (rewound WindowRecord.seq (s.received p).history.ring)).answering p 0x39 .done 0) :=
  congrArg Host.Outcome.next <|
    frameCommand_answered (effect := rewindHistoryEffect p) (who := .all) h (by decide) rfl rfl

/-- REWIND-LOG from any port: its cursor is rewound (R141). -/
theorem exec_rewindLog (h : s.Taking p) :
    exec (.rewindLog p) s = .next (((s.received p).setLogCursor p
      (rewound ServiceRecord.seq (s.received p).log.ring)).answering p 0x3D .done 0) :=
  congrArg Host.Outcome.next <|
    frameCommand_answered (effect := rewindLogEffect p) (who := .all) h (by decide) rfl rfl

/-- CLEAR-HISTORY from the Maintenance Port: the ring empty, every history cursor past newest (R38). -/
theorem exec_clearHistory (h : s.Taking .m) :
    exec (.clearHistory .m) s = .next ({ s.received .m with
      history.ring := []
      ports := (s.received .m).ports.map fun i => { i with history := .past } }.answering .m 0x3A .done 0) :=
  congrArg Host.Outcome.next <|
    frameCommand_answered (effect := clearHistoryEffect) (who := .maintenance) h (by decide) rfl rfl

/-- CLEAR-LOG from the Maintenance Port: the ring empty, every log cursor past newest (R141). -/
theorem exec_clearLog (h : s.Taking .m) :
    exec (.clearLog .m) s = .next ({ s.received .m with
      log.ring := []
      ports := (s.received .m).ports.map fun i => { i with log := .past } }.answering .m 0x3E .done 0) :=
  congrArg Host.Outcome.next <|
    frameCommand_answered (effect := clearLogEffect) (who := .maintenance) h (by decide) rfl rfl

/-- CLEAR-HISTORY from a line port (R38). -/
theorem exec_clearHistory_notPermitted (h : s.Taking p) (hp : p ≠ .m) :
    exec (.clearHistory p) s = .next ((s.received p).answering p 0x3A .notPermitted 0) :=
  congrArg Host.Outcome.next <|
    frameCommand_notPermitted clearHistoryEffect (who := .maintenance) h (by decide) (maintenance_permit_of_ne hp)

/-- CLEAR-LOG from a line port (R141). -/
theorem exec_clearLog_notPermitted (h : s.Taking p) (hp : p ≠ .m) :
    exec (.clearLog p) s = .next ((s.received p).answering p 0x3E .notPermitted 0) :=
  congrArg Host.Outcome.next <|
    frameCommand_notPermitted clearLogEffect (who := .maintenance) h (by decide) (maintenance_permit_of_ne hp)

/-- SHIFT-MARK from a line port: the SHIFT marker set (R33). -/
theorem exec_shiftMark (h : s.Taking p) (hp : p ≠ .m) :
    exec (.shiftMark p) s = .next
      ({ s.received p with history.markers.shift := true }.answering p 0x09 .done 0) :=
  congrArg Host.Outcome.next <|
    frameCommand_answered (effect := shiftMarkEffect) (who := .line) h (by decide) (line_permit_of_ne hp) rfl

end

/-! ## The statement -/

/-- Settles O45: each clause is the equation of its command; a rewind is taken apart by whether the ring is empty. -/
theorem rewindClearAndMark : Obligations.RewindClearAndMark := by
  intro p s h
  refine ⟨?rewindHistoryEmpty, ?rewindHistory, ?rewindLogEmpty, ?rewindLog, ?clearHistory, ?clearLog, ?refused, ?mark⟩
  case rewindHistoryEmpty =>
    intro hr
    rw [exec_rewindHistory h, hr, rewound_nil]
    rfl
  case rewindHistory =>
    intro w rest hr
    rw [exec_rewindHistory h, hr, rewound_cons]
    rfl
  case rewindLogEmpty =>
    intro hr
    rw [exec_rewindLog h, hr, rewound_nil]
    rfl
  case rewindLog =>
    intro w rest hr
    rw [exec_rewindLog h, hr, rewound_cons]
    rfl
  case clearHistory =>
    rintro rfl
    exact exec_clearHistory h
  case clearLog =>
    rintro rfl
    exact exec_clearLog h
  case refused => exact fun hp => ⟨exec_clearHistory_notPermitted h hp, exec_clearLog_notPermitted h hp⟩
  case mark => exact exec_shiftMark h

end Sys2Proof.Machine

/-! PROOF. The speed band of an element (R73): what a search through a table in order comes to, the factor of the band
it finds and past every bound, and the base of an element at rest; then the statement, assembled from them. -/

namespace Sys2Proof.Machine

/-! ## A search through a table -/

section
variable {α : Type} {n : Nat} {t : Table α n} {f : α → Bool}

/-- A search through a table finds the record with the property that none before it has. -/
theorem Table.find?_eq_some_get {i : Fin n} (hi : f (t.get i) = true) (hbefore : ∀ j, j < i → f (t.get j) = false) :
    t.data.find? f = some (t.get i) := by
  have hlt : i.val < t.data.length := by rw [t.size]; exact i.isLt
  refine List.find?_eq_some_iff_getElem.mpr ⟨hi, i.val, hlt, rfl, fun k hk => ?_⟩
  have hnot : f t.data[k] = false := hbefore ⟨k, hk.trans i.isLt⟩ hk
  simp [hnot]

/-- A search through a table none of whose records has the property finds nothing. -/
theorem Table.find?_eq_none (h : ∀ i, f (t.get i) = false) : t.data.find? f = none := by
  refine List.find?_eq_none.mpr fun a ha hf => ?_
  obtain ⟨i, hi⟩ := (t.any_iff f).mp (List.any_eq_true.mpr ⟨a, ha, hf⟩)
  exact absurd hi (by simp [h i])

end

/-! ## The speed factor and the base -/

section
variable {bands : Table Band 8} {rev64 : Nat}

/-- The factor is that of the first band whose bound rev64 does not exceed (R73). -/
theorem speedFactor_of_first {i : Fin 8} (hi : rev64 ≤ (bands.get i).bound)
    (hbefore : ∀ j, j < i → (bands.get j).bound < rev64) : speedFactor bands rev64 = (bands.get i).factor := by
  have hfound : bands.data.find? (fun b => rev64 ≤ b.bound) = some (bands.get i) :=
    Table.find?_eq_some_get (decide_eq_true hi) fun j hj => decide_eq_false (Nat.not_le.mpr (hbefore j hj))
  rw [speedFactor, hfound]

/-- Past every bound the factor is that of band 7 (R73). -/
theorem speedFactor_of_past (h : ∀ i, (bands.get i).bound < rev64) :
    speedFactor bands rev64 = (bands.get 7).factor := by
  have hnone : bands.data.find? (fun b => rev64 ≤ b.bound) = none :=
    Table.find?_eq_none fun i => decide_eq_false (Nat.not_le.mpr (h i))
  rw [speedFactor, hnone]

/-- An element at rest takes band 0 (R73). -/
@[simp] theorem speedFactor_zero : speedFactor bands 0 = (bands.get 0).factor :=
  speedFactor_of_first (Nat.zero_le _) fun j hj => absurd hj (Fin.not_lt_zero j)

/-- An element at rest has base 0 whatever its factor, weight and slip are (R73). -/
theorem Element.base_of_rev64_zero {e : Element} {pulses : Nat} (h : e.rev64 pulses = 0) (weight : Nat) (slip : Bool) :
    e.base bands weight pulses slip = 0 := by
  cases slip <;> simp [Element.base, h]

end

/-! ## The statement -/

/-- Settles O55: the search through the bands in order finds the first whose bound is not exceeded, or none. -/
theorem speedBandChosen : Obligations.SpeedBandChosen := fun _ _ =>
  ⟨fun _ => speedFactor_of_first, speedFactor_of_past, speedFactor_zero,
    fun _ weight _ slip h => Element.base_of_rev64_zero h weight slip⟩

end Sys2Proof.Machine

/-! PROOF. The state of an element and its projection (R57, R92): the three cases of the state, the projection at the
limit, at rate 0 and as a ceiling capped at its top, and what tells whether the projection is at most t; then the
statement, assembled from them. -/

namespace Sys2Proof.Machine

/-! ## The state -/

section
variable {wear limit margin : Nat}

/-- The state is DUE from the limit on, WORN within the margin before it and FRESH before that (R57). -/
theorem derivedState_cases (wear limit margin : Nat) :
    (limit * Config.block ≤ wear ∧ derivedState wear limit margin = .due) ∨
    ((wear < limit * Config.block ∧ limit * Config.block ≤ wear + margin * Config.block) ∧
      derivedState wear limit margin = .worn) ∨
    (wear + margin * Config.block < limit * Config.block ∧ derivedState wear limit margin = .fresh) := by
  rw [derivedState]
  split_ifs with hlimit hmargin
  · exact .inl ⟨hlimit, rfl⟩
  · exact .inr (.inl ⟨⟨Nat.not_le.mp hlimit, hmargin⟩, rfl⟩)
  · exact .inr (.inr ⟨Nat.not_le.mp hmargin, rfl⟩)

/-- An element is DUE exactly when its wear has reached the limit (R57). -/
theorem derivedState_eq_due_iff : derivedState wear limit margin = .due ↔ limit * Config.block ≤ wear := by
  obtain ⟨hdue, h⟩ | ⟨⟨hlimit, -⟩, h⟩ | ⟨hfresh, h⟩ := derivedState_cases wear limit margin
  · simp [h, hdue]
  · simp [h, hlimit]
  · simp [h, (Nat.le_add_right _ _).trans_lt hfresh]

/-- An element is WORN exactly when its wear is below the limit and within the margin of it (R57). -/
theorem derivedState_eq_worn_iff : derivedState wear limit margin = .worn ↔
    wear < limit * Config.block ∧ limit * Config.block ≤ wear + margin * Config.block := by
  obtain ⟨hdue, h⟩ | ⟨hworn, h⟩ | ⟨hfresh, h⟩ := derivedState_cases wear limit margin
  · simp [h, hdue.not_gt]
  · simp [h, hworn]
  · simp [h, hfresh]

/-- An element is FRESH exactly when its wear with the margin is below the limit (R57). -/
theorem derivedState_eq_fresh_iff : derivedState wear limit margin = .fresh ↔
    wear + margin * Config.block < limit * Config.block := by
  obtain ⟨hdue, h⟩ | ⟨⟨-, hmargin⟩, h⟩ | ⟨hfresh, h⟩ := derivedState_cases wear limit margin
  · simp [h, hdue.trans (Nat.le_add_right _ _)]
  · simp [h, hmargin]
  · simp [h, hfresh]

end

/-! ## The projection -/

section
variable {wear limit rate : Nat}

/-- At the limit the projection is 0 (R92). -/
theorem projectionOf_of_limit_le (h : limit * Config.block ≤ wear) : projectionOf wear limit rate = 0 := if_pos h

/-- Below the limit an element that does not wear has the top projection (R92). -/
theorem projectionOf_of_rate_zero (h : wear < limit * Config.block) (hr : rate = 0) :
    projectionOf wear limit rate = Config.projectionTop := by
  rw [projectionOf, if_neg (Nat.not_le.mpr h), if_pos hr]

/-- Below the limit and at a rate, the projection is the ceiling of 16m / R, at most the top (R92). -/
theorem projectionOf_of_rate_pos (h : wear < limit * Config.block) (hr : 0 < rate) :
    projectionOf wear limit rate = min ((16 * (limit * Config.block - wear)) ⌈/⌉ rate) Config.projectionTop := by
  rw [projectionOf, if_neg (Nat.not_le.mpr h), if_neg hr.ne', Nat.ceilDiv_eq_add_pred_div]

/-- The projection never exceeds its top (R92). -/
theorem projectionOf_le_top : projectionOf wear limit rate ≤ Config.projectionTop := by
  rw [projectionOf]
  split_ifs
  · exact Nat.zero_le _
  · exact le_rfl
  · exact min_le_right _ _

/-- Below the top, the projection is at most t exactly when t windows wear off what is left, so that it is the least
such t (R92). -/
theorem projectionOf_le_iff {t : Nat} (h : wear < limit * Config.block) (hr : 0 < rate)
    (ht : t < Config.projectionTop) :
    projectionOf wear limit rate ≤ t ↔ 16 * (limit * Config.block - wear) ≤ t * rate := by
  rw [projectionOf_of_rate_pos h hr, min_le_iff, or_iff_left ht.not_ge, ceilDiv_le_iff_le_mul hr, Nat.mul_comm rate]

end

/-! ## The statement -/

/-- Settles O48: the cases of the state, and the projection as the least t that wears off what is left. -/
theorem stateAndProjection : Obligations.StateAndProjection := by
  intro wear limit margin rate
  refine ⟨derivedState_eq_due_iff, derivedState_eq_worn_iff, derivedState_eq_fresh_iff, projectionOf_of_limit_le,
    projectionOf_of_rate_zero, fun h hr => ⟨projectionOf_le_top, fun t ht => ?least, fun htop => ?enough⟩⟩
  case least =>
    exact Nat.not_le.mp fun hle =>
      ht.not_ge ((projectionOf_le_iff h hr (ht.trans_le projectionOf_le_top)).mpr hle)
  case enough => exact (projectionOf_le_iff h hr htop).mp le_rfl

end Sys2Proof.Machine

/-! PROOF. The condition notices and the attention line (R145, R148): which set a notice alone makes, each condition in
the words of the tables it reads, the members of a port's conditions, and what it is for two sets to have a member in
common; then the statement, assembled from them. -/

namespace Sys2Proof.Machine

/-! ## Sets of notices -/

/-- The sixteen notices fit a set. -/
theorem Notice.number_lt (n : Notice) : n.number < 16 := by
  cases n <;> decide

/-- A notice that stands only if `b` holds is the one member of its set, and that if `b` holds (R145). -/
theorem Notice.mem_when_iff {n : Notice} {b : Bool} {k : Nat} :
    (n.when b).getLsbD k = true ↔ k = n.number ∧ b = true := by
  cases b with
  | true => simp [Notice.when, Notice.bit, n.number_lt, eq_comm]
  | false => simp [Notice.when]

/-- Two sets have a member in common exactly when their intersection is not empty. -/
theorem NoticeSet.and_bne_zero_iff {x y : NoticeSet} :
    (x &&& y != 0) = true ↔ ∃ k, y.getLsbD k = true ∧ x.getLsbD k = true := by
  rw [bne_iff_ne, ← not_iff_not, not_not]
  constructor
  · rintro h ⟨k, hy, hx⟩
    have hk : (x &&& y).getLsbD k = true := by rw [BitVec.getLsbD_and, hx, hy, Bool.and_self]
    simp [h] at hk
  · intro h
    refine BitVec.eq_of_getLsbD_eq fun k _ => ?_
    have hk : ¬(x.getLsbD k = true ∧ y.getLsbD k = true) := fun ⟨hx, hy⟩ => h ⟨k, hy, hx⟩
    simpa [BitVec.getLsbD_and] using hk

/-! ## The conditions -/

section
variable {s : State} {side : Side}

/-- DUE has an element that is DUE (R58, R145). -/
theorem anyDue_iff : s.anyDue = true ↔ ∃ n, (s.elements.get n).state = .due := by
  simp [State.anyDue, Table.any_iff]

/-- SUSPECT has an element that is SUSPECT (R58, R145). -/
theorem anySuspect_iff : s.anySuspect = true ↔ ∃ n, (s.elements.get n).state = .suspect := by
  simp [State.anySuspect, Table.any_iff]

/-- HOLD-REQ has a zone that is REQUESTED and that the side owns and has not granted (R109). -/
theorem holdRequested_iff : s.holdRequested side = true ↔ ∃ z, (s.tickets.holds.get z).state = .requested ∧
    (s.owner z).has side = true ∧ (s.tickets.holds.get z).grant side = false := by
  simp [State.holdRequested, and_assoc]

/-- LAPSE has a zone that the side owns and where its report has lapsed (R49). -/
theorem lapseHolds_iff : s.lapseHolds side = true ↔ ∃ z, (s.owner z).has side = true ∧
    ((s.book.zones.get z).report side).lapsed = true := by
  simp [State.lapseHolds, Table.any_iff, State.owner]

/-- What stands at a line port: DUE, HOLD-REQ and LAPSE, each while it holds there (R145). -/
theorem mem_conditions_portOf_iff {k : Nat} : (s.conditions (portOf side)).getLsbD k = true ↔
    k = 1 ∧ s.anyDue = true ∨ k = 5 ∧ s.holdRequested side = true ∨ k = 8 ∧ s.lapseHolds side = true := by
  have hside : sideOf (portOf side) = some side := by cases side <;> rfl
  simp [State.conditions, hside, Notice.mem_when_iff, Notice.number]

/-- What stands at the Maintenance Port: DUE and SUSPECT, each while it holds (R145). -/
theorem mem_conditions_maintenance_iff {k : Nat} : (s.conditions .m).getLsbD k = true ↔
    k = 1 ∧ s.anyDue = true ∨ k = 12 ∧ s.anySuspect = true := by
  simp [State.conditions, sideOf, Notice.mem_when_iff, Notice.number]

/-- DUE stands at every port while it holds (R145). -/
theorem due_mem_conditions_iff (p : Port) : (s.conditions p).getLsbD 1 = true ↔ s.anyDue = true := by
  cases p with
  | a => exact (mem_conditions_portOf_iff (side := .a)).trans (by simp)
  | b => exact (mem_conditions_portOf_iff (side := .b)).trans (by simp)
  | m => exact mem_conditions_maintenance_iff.trans (by simp)

/-- No notice but the conditions of R145 stands at a line port. -/
theorem mem_of_mem_conditions_portOf {k : Nat} (h : (s.conditions (portOf side)).getLsbD k = true) :
    k ∈ [1, 5, 8] := by
  obtain ⟨rfl, -⟩ | ⟨rfl, -⟩ | ⟨rfl, -⟩ := mem_conditions_portOf_iff.mp h <;> decide

/-- No notice but the conditions of R145 stands at the Maintenance Port. -/
theorem mem_of_mem_conditions_maintenance {k : Nat} (h : (s.conditions .m).getLsbD k = true) : k ∈ [1, 12] := by
  obtain ⟨rfl, -⟩ | ⟨rfl, -⟩ := mem_conditions_maintenance_iff.mp h <;> decide

end

/-! ## The attention line -/

section
variable {s : State} {p : Port}

/-- Nothing is pending in RETAINED (R153). -/
theorem pendingSet_retained (h : s.ctl.op = .retained) : s.pendingSet p = 0 := if_pos h

/-- Outside RETAINED the events of a port and its conditions are pending (R144, R145). -/
theorem pendingSet_of_not_retained (h : s.ctl.op ≠ .retained) :
    s.pendingSet p = (s.notices.get p).events ||| s.conditions p := if_neg h

/-- No attention line is asserted in RETAINED (R153). -/
theorem attention_retained (h : s.ctl.op = .retained) : s.attention p = false := by
  simp [State.attention, pendingSet_retained h]

/-- An attention line is asserted exactly when the pending set and the mask have a member in common (R148). -/
theorem attention_iff : s.attention p = true ↔
    ∃ k, (s.notices.get p).mask.getLsbD k = true ∧ (s.pendingSet p).getLsbD k = true :=
  NoticeSet.and_bne_zero_iff

end

/-! ## The statement -/

/-- Settles O21: each clause reads one member of a port's conditions, and the attention line the pending set. -/
theorem conditionsAndAttention : Obligations.ConditionsAndAttention := by
  intro s
  refine ⟨fun p => ?due, fun side => ?holdReq, fun side => ?lapse, ?suspect, fun p k h => ?noOther,
    fun p h => ?asserted, fun p => attention_retained⟩
  case due => exact (due_mem_conditions_iff p).trans anyDue_iff
  case holdReq => exact (mem_conditions_portOf_iff.trans (by simp)).trans holdRequested_iff
  case lapse => exact (mem_conditions_portOf_iff.trans (by simp)).trans lapseHolds_iff
  case suspect => exact (mem_conditions_maintenance_iff.trans (by simp)).trans anySuspect_iff
  case noOther =>
    cases p with
    | a => exact mem_of_mem_conditions_portOf (side := .a) h
    | b => exact mem_of_mem_conditions_portOf (side := .b) h
    | m => exact mem_of_mem_conditions_maintenance h
  case asserted =>
    rw [attention_iff, pendingSet_of_not_retained h]
    simp

end Sys2Proof.Machine

/-! PROOF. READ-NOTICES, SET-NOTICE-MASK and PAGE (R146, R150 to R152): an operand that names something and one that
names nothing, the next state of each command by its operand; then the statement, assembled from them. -/

namespace Sys2Proof.Machine

/-! ## Operands -/

/-- An operand that names something is acted on. -/
@[simp] theorem orBadArg_some {α : Type} (s : State) (x : α) (f : α → Taken) : orBadArg s (some x) f = f x := rfl

/-- An operand that names nothing is refused BAD-ARG (R181). -/
@[simp] theorem orBadArg_none {α : Type} (s : State) (f : α → Taken) :
    orBadArg s none f = ⟨s, some ⟨.badArg, BitVec.ofNat 32 0⟩⟩ := rfl

/-- The ports that a PAGE selector names (R152). -/
theorem pageTargetOf_of_mem : ∀ x ∈ [(0, Port.a), (1, .b), (2, .m)], pageTargetOf x.1 = some x.2 := by decide

/-- A PAGE selector above 2 names no port (R152). -/
theorem pageTargetOf_none {n : Nat} (h : 2 < n) : pageTargetOf n = none := by
  match n, h with
  | _ + 3, _ => rfl

/-- READ-NOTICES with a selector above 2 changes nothing and is refused (R151). -/
theorem readNoticesEffect_badArg {p : Port} {sel : Byte} (s : State) (h : 2 < sel.toNat) :
    readNoticesEffect p sel s = ⟨s, some ⟨.badArg, BitVec.ofNat 32 0⟩⟩ := by
  obtain ⟨k, hk⟩ := Nat.exists_eq_add_of_lt h
  have hsel : sel.toNat = k + 3 := by omega
  simp [readNoticesEffect, hsel, declined]

/-! ## The commands -/

section
variable {p : Port} {s : State}

/-- READ-NOTICES with selector 0 returns the pending set and leaves DUE, HOLD-REQ, LAPSE and SUSPECT of it (R150). -/
theorem exec_readNotices_zero (h : s.Taking p) :
    exec (.readNotices p 0) s = .next ({ s.received p with
      notices := (s.received p).notices.modify p fun b => { b with events := b.events &&& 0x1122 } }.answering p
        0x02 .done ((s.received p).pendingSet p).toNat) :=
  congrArg Host.Outcome.next <|
    frameCommand_answered (effect := readNoticesEffect p 0) (who := .all) h (by decide) rfl rfl

/-- READ-NOTICES with selector 1 returns the pending set (R151). -/
theorem exec_readNotices_one (h : s.Taking p) :
    exec (.readNotices p 1) s = .next ((s.received p).answering p 0x02 .done ((s.received p).pendingSet p).toNat) :=
  congrArg Host.Outcome.next <|
    frameCommand_answered (effect := readNoticesEffect p 1) (who := .all) h (by decide) rfl rfl

/-- READ-NOTICES with selector 2 returns the mask (R151). -/
theorem exec_readNotices_two (h : s.Taking p) :
    exec (.readNotices p 2) s = .next ((s.received p).answering p 0x02 .done
      ((s.received p).notices.get p).mask.toNat) :=
  congrArg Host.Outcome.next <|
    frameCommand_answered (effect := readNoticesEffect p 2) (who := .all) h (by decide) rfl rfl

/-- READ-NOTICES with a selector above 2 is refused (R151). -/
theorem exec_readNotices_badArg (h : s.Taking p) {sel : Byte} (hsel : 2 < sel.toNat) :
    exec (.readNotices p sel) s = .next ((s.received p).answering p 0x02 .badArg 0) :=
  congrArg Host.Outcome.next <|
    frameCommand_answered (who := .all) h (by decide) rfl (readNoticesEffect_badArg _ hsel)

/-- SET-NOTICE-MASK stores a mask of 16 bits and answers it (R146). -/
theorem exec_setNoticeMask (h : s.Taking p) {val : Word} (hval : val.toNat ≤ 65535) :
    exec (.setNoticeMask p val) s = .next ({ s.received p with
      notices := (s.received p).notices.modify p fun b => { b with mask := BitVec.ofNat 16 val.toNat } }.answering p
        0x03 .done val.toNat) :=
  congrArg Host.Outcome.next <|
    frameCommand_answered (who := .all) h (by decide) rfl <| by
      rw [setNoticeMaskEffect, within_some (Nat.zero_le _) hval, orBadArg_some, answered]

/-- SET-NOTICE-MASK with a value above 65535 is refused (R146). -/
theorem exec_setNoticeMask_badArg (h : s.Taking p) {val : Word} (hval : 65535 < val.toNat) :
    exec (.setNoticeMask p val) s = .next ((s.received p).answering p 0x03 .badArg 0) :=
  congrArg Host.Outcome.next <|
    frameCommand_answered (who := .all) h (by decide) rfl <| by
      rw [setNoticeMaskEffect, within_none (.inr hval), orBadArg_none]

/-- PAGE raises PAGE at the port its selector names (R152). -/
theorem exec_page (h : s.Taking p) {sel : Byte} {target : Port} (hsel : pageTargetOf sel.toNat = some target) :
    exec (.page p sel) s = .next (((s.received p).raiseAt .page target).answering p 0x04 .done 0) :=
  congrArg Host.Outcome.next <|
    frameCommand_answered (who := .all) h (by decide) rfl <| by
      rw [pageEffect, hsel, orBadArg_some, answered]

/-- PAGE with a selector that names no port is refused (R152). -/
theorem exec_page_badArg (h : s.Taking p) {sel : Byte} (hsel : 2 < sel.toNat) :
    exec (.page p sel) s = .next ((s.received p).answering p 0x04 .badArg 0) :=
  congrArg Host.Outcome.next <|
    frameCommand_answered (who := .all) h (by decide) rfl <| by
      rw [pageEffect, pageTargetOf_none hsel, orBadArg_none]

end

/-! ## The statement -/

/-- Settles O20: each clause is the equation of its command for its operand. -/
theorem noticeCommands : Obligations.NoticeCommands :=
  ⟨fun _ _ h => ⟨exec_readNotices_zero h, exec_readNotices_one h, exec_readNotices_two h,
      fun _ => exec_readNotices_badArg h⟩,
    fun _ _ h => ⟨fun _ => exec_setNoticeMask h, fun _ => exec_setNoticeMask_badArg h,
      fun _ _ hmem => exec_page h (pageTargetOf_of_mem _ hmem), fun _ => exec_page_badArg h⟩⟩

end Sys2Proof.Machine

/-! PROOF. READ-STATUS and the requested state (R158, R172, R186): the counted votes in the words of the flags, the
requested state case by case, a count over a table by the numbers of its records, and the next state of READ-STATUS by
its selector; then the two statements, assembled from them. -/

namespace Sys2Proof.Machine

/-! ## The requested state -/

section
variable {c : Control}

/-- A vote is counted exactly when a fitted line port holds it, or the Maintenance Port does and neither line port is
fitted (R158). -/
theorem Control.mem_countedVotes_iff {v : Vote} : v ∈ c.countedVotes ↔
    (c.fittedA = true ∧ c.votes.a = v) ∨ (c.fittedB = true ∧ c.votes.b = v) ∨
      (c.fittedA = false ∧ c.fittedB = false ∧ c.votes.m = v) := by
  cases hA : c.fittedA <;> cases hB : c.fittedB <;> simp [Control.countedVotes, hA, hB, eq_comm]

/-- Every vote of a list is PARK exactly when no RUN and no PAUSE is among them. -/
theorem Vote.forall_eq_park_iff {votes : List Vote} :
    (∀ v ∈ votes, v = .park) ↔ .run ∉ votes ∧ .pause ∉ votes := by
  constructor
  · exact fun h => ⟨fun hrun => Vote.noConfusion (h _ hrun), fun hpause => Vote.noConfusion (h _ hpause)⟩
  · rintro ⟨hrun, hpause⟩ v hv
    cases v with
    | run => exact absurd hv hrun
    | pause => exact absurd hv hpause
    | park => rfl

/-- The three rows of the table of R158. -/
theorem Control.requested_cases (c : Control) :
    (.run ∈ c.countedVotes ∧ c.requested = .active) ∨
    (.run ∉ c.countedVotes ∧ .pause ∉ c.countedVotes ∧ c.requested = .parked) ∨
    (.run ∉ c.countedVotes ∧ .pause ∈ c.countedVotes ∧ c.requested = .quiet) := by
  by_cases hrun : .run ∈ c.countedVotes
  · exact .inl ⟨hrun, by simp [Control.requested, hrun]⟩
  · by_cases hpause : .pause ∈ c.countedVotes
    · have hall : ¬∀ v ∈ c.countedVotes, v = .park := fun h => (Vote.forall_eq_park_iff.mp h).2 hpause
      exact .inr (.inr ⟨hrun, hpause, by simp [Control.requested, hrun, hall]⟩)
    · have hall : ∀ v ∈ c.countedVotes, v = .park := Vote.forall_eq_park_iff.mpr ⟨hrun, hpause⟩
      exact .inr (.inl ⟨hrun, hpause, by simpa [Control.requested, hrun] using hall⟩)

/-- ACTIVE is requested exactly when a RUN is counted (R158). -/
theorem Control.requested_eq_active_iff : c.requested = .active ↔ .run ∈ c.countedVotes := by
  obtain ⟨hrun, h⟩ | ⟨hrun, -, h⟩ | ⟨hrun, -, h⟩ := c.requested_cases <;> simp [h, hrun]

/-- PARKED is requested exactly when neither a RUN nor a PAUSE is counted (R158). -/
theorem Control.requested_eq_parked_iff :
    c.requested = .parked ↔ .run ∉ c.countedVotes ∧ .pause ∉ c.countedVotes := by
  obtain ⟨hrun, h⟩ | ⟨hrun, hpause, h⟩ | ⟨-, hpause, h⟩ := c.requested_cases
  · simp [h, hrun]
  · simp [h, hrun, hpause]
  · simp [h, hpause]

/-- QUIET is requested exactly when no RUN and some PAUSE is counted (R158). -/
theorem Control.requested_eq_quiet_iff :
    c.requested = .quiet ↔ .run ∉ c.countedVotes ∧ .pause ∈ c.countedVotes := by
  obtain ⟨hrun, h⟩ | ⟨-, hpause, h⟩ | ⟨hrun, hpause, h⟩ := c.requested_cases
  · simp [h, hrun]
  · simp [h, hpause]
  · simp [h, hrun, hpause]

end

/-! ## The parts of the status -/

/-- The codes of the operating states (R186). -/
theorem OpState.code_of_mem :
    ∀ x ∈ [(OpState.active, 0), (.quiet, 1), (.parked, 2), (.retained, 3)], x.1.code = x.2 := by decide

/-- The codes of the votes (R186). -/
theorem Vote.code_of_mem : ∀ x ∈ [(Vote.run, 0), (.pause, 1), (.park, 2)], x.1.code = x.2 := by decide

/-- The codes of the start kinds (R186). -/
theorem StartKind.code_of_mem : ∀ x ∈ [(StartKind.cold, 0), (.warm, 1), (.soft, 2)], x.1.code = x.2 := by decide

/-- The records of a table in the order of their numbers. -/
theorem Table.data_eq_map_get {α : Type} {n : Nat} (t : Table α n) : t.data = (List.finRange n).map t.get :=
  List.ext_getElem (by simp [t.size]) fun k _ _ => by simp [Table.get]

/-- A count over a table counts the numbers whose records have the property. -/
theorem Table.count_eq_countP {α : Type} {n : Nat} (t : Table α n) (f : α → Bool) :
    t.count f = (List.finRange n).countP fun i => f (t.get i) := by
  rw [Table.count, t.data_eq_map_get, List.countP_map, Function.comp_def]

/-- Part 1 of the status: open tickets, entries of the due list, and elements that are SUSPECT (R186). -/
theorem statusPart_one (s : State) : s.statusPart 1 = some (s.tickets.table.length + 2 ^ 8 * s.plan.due.length +
    2 ^ 16 * ((List.finRange 64).countP fun n => (s.elements.get n).state = .suspect)) := by
  rw [State.statusPart, Table.count_eq_countP]

/-- A selector above 2 names no part of the status (R172). -/
theorem statusPart_none (s : State) {part : Nat} (h : 2 < part) : s.statusPart part = none := by
  match part, h with
  | _ + 3, _ => rfl

/-! ## The command -/

section
variable {p : Port} {s : State} {sel : Byte}

/-- READ-STATUS with a selector that names a part returns the part and changes nothing (R172). -/
theorem exec_readStatus (h : s.Taking p) {data : Nat} (hpart : (s.received p).statusPart sel.toNat = some data) :
    exec (.readStatus p sel) s = .next ((s.received p).answering p 0x01 .done data) :=
  congrArg Host.Outcome.next <|
    frameCommand_answered (who := .all) h (by decide) rfl <| by
      rw [readStatusEffect, hpart, orBadArg_some, answered]

/-- READ-STATUS with a selector above 2 is refused (R172). -/
theorem exec_readStatus_badArg (h : s.Taking p) (hsel : 2 < sel.toNat) :
    exec (.readStatus p sel) s = .next ((s.received p).answering p 0x01 .badArg 0) :=
  congrArg Host.Outcome.next <|
    frameCommand_answered (who := .all) h (by decide) rfl <| by
      rw [readStatusEffect, statusPart_none _ hsel, orBadArg_none]

end

/-! ## The statements -/

/-- Settles O19: each selector's clause is the equation of READ-STATUS for its part, with the tables of codes. -/
theorem readStatusParts : Obligations.ReadStatusParts :=
  ⟨fun _ _ h => ⟨exec_readStatus h rfl, exec_readStatus h (statusPart_one _), exec_readStatus h rfl,
      fun _ => exec_readStatus_badArg h⟩,
    fun _ _ => OpState.code_of_mem _, fun _ _ => Vote.code_of_mem _, fun _ _ => StartKind.code_of_mem _⟩

/-- Settles O23: the three requested states by what is among the counted votes, those in the words of the flags. -/
theorem requestedState : Obligations.RequestedState := by
  intro c
  simp only [← Control.mem_countedVotes_iff]
  exact ⟨Control.requested_eq_active_iff, Control.requested_eq_parked_iff, Control.requested_eq_quiet_iff⟩

end Sys2Proof.Machine

/-! PROOF. What a step can do, said once. A step is a chain of moves, each an update of one part of the device by one
operation, with what the operation has checked before it. The properties that stand at every moment are then kept by
every step because they are kept by every move. This part gives the moves; the next shows that steps are made of
them. -/

namespace Sys2Proof.Machine

/-! ## Moves -/

/-- What a claim about moves may rest on and allow. -/
structure Scope where
  /-- the ports and the operating state agree, so that a command finds no parked device -/
  woken : Prop
  /-- the grant timers may count down, which leaves one at 0 before its expiry is taken -/
  ticking : Prop
  /-- an element's wear may be set back -/
  resetting : Prop

/-- What a move can make of the record of element `i`; `busy` tells whether it is an item of a ticket. -/
inductive Element.Change (k : Scope) (i : Fin 64) (busy : Bool) (e : Element) : Element → Prop
  | same : Change k i busy e e
  | configured (zone : Fin 8) (tach ppr ratio : Nat) (reference : Option Nat)
      (expected tolerance slipWeight residue : Nat)
      (hz : busy = true → zone = e.zone) (hq : e.residue < e.ppr → residue < ppr) :
      Change k i busy e ({ e with
        zone := zone, tach := tach, ppr := ppr, ratio := ratio, reference := reference, expected := expected,
        tolerance := tolerance, slipWeight := slipWeight, residue := residue }.checked i)
  | limited (limit margin : Nat) (h : e.accounted = false) :
      Change k i busy e ({ e with limit := limit, margin := margin }.checked i)
  | relimited (limit margin : Nat) (h : e.accounted = true) :
      Change k i busy e ({ e with limit := limit, margin := margin }.rederived.checked i)
  | enabled (h : e.inUse = false) (hr : e.inRange = true) : Change k i busy e (e.enabled i)
  | accepted (h : e.state = .suspect) (hr : e.inRange = true) : Change k i busy e (e.accepted i)
  | disabled (h : busy = false) : Change k i busy e { e with state := .idle, unfed := false }
  | preset (hk : k.resetting) (h : e.inUse = false) (wear : Nat) (hw : wear ≤ 4294967295) :
      Change k i busy e ({ e with wear := wear }.checked i)
  | renewed (hk : k.resetting) : Change k i busy e (e.renewed i)
  | accrued (bands : Table Band 8) (weight : Nat) (own : Handed) (reference : Option Handed)
      (h : e.accounted = true) : Change k i busy e (e.accrue i bands weight own reference).element
  | passed (shift : Nat) : Change k i busy e (e.passed shift)

/-- A zone's hold record when one ticket less counts toward its demand (R118, R119, R126). -/
def HoldRecord.lowered (h : HoldRecord) : HoldRecord :=
  if h.demand - 1 = 0 then .cold else { h with demand := h.demand - 1 }

/-- What a move can make of the Ticket Unit. -/
inductive TicketChange (k : Scope) (s : State) : TicketUnit → Prop
  | reports (r : Table Bool 8) : TicketChange k s { s.tickets with reports := r }
  | grantTime (v : Nat) (h : 1 ≤ v ∧ v ≤ 65535) : TicketChange k s { s.tickets with grantTime := v }
  | reported (z : Fin 8) : TicketChange k s (s.takeReport z).tickets
  | gate (z : Fin 8) : TicketChange k s (s.gateOpened z).tickets
  | granted (z : Fin 8) (side : Side) (ho : (s.owner z).has side = true)
      (hf : (s.tickets.holds.get z).state ≠ .free) : TicketChange k s (s.recordGrant z side).tickets
  | withdrawn (z : Fin 8) (side : Side) (ho : (s.owner z).has side = true)
      (hg : (s.tickets.holds.get z).grant side = true) : TicketChange k s (s.withdrawGrant z side).tickets
  | opened (e : Fin 64) (hl : s.tickets.table.length < 8) (hu : (s.elements.get e).inUse = true)
      (hb : s.onTicket e = false) : TicketChange k s { s.tickets with
        table := s.tickets.table ++ [.opened s.nextNumber (s.elements.get e).zone e]
        next := numberAfter s.nextNumber }
  | itemAdded (n : Nat) (t : Ticket) (ht : s.ticket? n = some t) (e : Fin 64) (hp : t.state = .planned)
      (hu : (s.elements.get e).inUse = true) (hb : s.onTicket e = false) (hz : (s.elements.get e).zone = t.zone)
      (hl : t.items.length < 6) :
      TicketChange k s (s.mapTicket t.number fun u => { u with items := u.items ++ [⟨e, .pending⟩] }).tickets
  | started (n : Nat) (t : Ticket) (ht : s.ticket? n = some t) (ha : t.active = false)
      (hw : k.woken → s.ctl.op ≠ .parked) :
      TicketChange k s ((s.mapHold t.zone fun h => { h with
          state := startedHold (s.tickets.holds.get t.zone).state (s.owner t.zone)
          demand := h.demand + 1 }).mapTicket t.number fun u =>
        u.started (startedHold (s.tickets.holds.get t.zone).state (s.owner t.zone)) (s.guardOpen t.zone)
          s.grantMs).tickets
  | resolved (n : Nat) (e : Fin 64) (o : ItemOutcome) :
      TicketChange k s (s.mapTicket n fun u => u.resolved e o).tickets
  | closed (n : Nat) (t : Ticket) (ht : s.ticket? n = some t) (ha : t.active = false) :
      TicketChange k s { s.tickets with table := s.tickets.table.filter fun u => u.number != t.number }
  | removed (n : Nat) (t : Ticket) (ht : s.ticket? n = some t) (ha : t.active = true) :
      TicketChange k s { s.tickets with
        table := s.tickets.table.filter fun u => u.number != t.number
        holds := s.tickets.holds.modify t.zone HoldRecord.lowered }
  | stalled (n : Nat) (t : Ticket) (ht : s.ticket? n = some t) (ha : t.state = .awaiting) :
      TicketChange k s { s.tickets with
        table := s.tickets.table.map fun u => if u.number = t.number then u.enterStalled else u
        holds := s.tickets.holds.modify t.zone HoldRecord.lowered }

/-- The part of `State.ControlAgrees` that speaks of one port (R163, R173, R178). -/
def Interface.Framed (i : Interface) (op : OpState) : Prop :=
  (i.void = true → i.select = true ∧ i.shiftOut = 0) ∧ i.bitCount ≤ 255 ∧ (op = .parked → i.select = false) ∧
    (op = .retained → i.void = false)

/-- The part of `State.LoadsAgree` that speaks of one zone (R40, R44). -/
def ZoneBook.Fits (b : ZoneBook) : Prop :=
  b.fallback ≤ 7 ∧ (1 ≤ b.holdTime ∧ b.holdTime ≤ 255) ∧ b.reportA.Agrees (b.owner = .a ∨ b.owner = .both) ∧
    b.reportB.Agrees (b.owner = .b ∨ b.owner = .both)

/-- One move of the device: one operation on one part of it. -/
inductive Move (k : Scope) : State → State → Prop
  /- notices, the levels of the pins, the half millisecond: what no property reads -/
  | notices (s : State) (n : PerPort NoticeBox) : Move k s { s with notices := n }
  | input (s : State) (levels : Pins) : Move k s { s with pins.input := levels }
  | contacts (s : State) (levels : Pins) : Move k s { s with scan.contacts := levels }
  | half (s : State) (b : Bool) : Move k s { s with half := b }
  /- ports, lines, pins and clocks -/
  | port (s : State) (p : Port) (i : Interface) (hh : i.history = (s.ports.get p).history)
      (hl : i.log = (s.ports.get p).log) (hf : (s.ports.get p).Framed s.ctl.op → i.Framed s.ctl.op) :
      Move k s { s with ports := s.ports.set p i }
  | lines (s : State) (ls : Table Line 24) (h : ∀ i, (s.lines.get i).Counted → (ls.get i).Counted) :
      Move k s { s with lines := ls }
  | held (s : State) (h : Table (Option Bool) 24) : Move k s { s with pins.held := h }
  | frozen (s : State) (h : s.ctl.op ≠ .retained) : Move k s { s with pins.frozen := true }
  | unfrozen (s : State) (hw : k.woken → s.ctl.op ≠ .parked) : Move k s { s with pins.frozen := false }
  | timer (s : State) (x : Option Nat) (hr : s.ctl.op = .retained → x = none) : Move k s { s with scan.timer := x }
  | quietIndex (s : State) (v : Nat) (h : v ≤ 15) : Move k s { s with scan.quietIndex := v }
  | parkIndex (s : State) (v : Nat) (h : v ≤ 15) : Move k s { s with scan.parkIndex := v }
  | blink (s : State) (b : Nat) (h : b < 1000) : Move k s { s with blink := b }
  | ms (s : State) (m : Nat) (h : m ≤ s.pacer.divider) (hr : m = 0 ∨ s.running = true) :
      Move k s { s with pacer.ms := m }
  | divider (s : State) (d : Nat) (h : d ≤ 65535) (hm : s.pacer.ms = 0) : Move k s { s with pacer.divider := d }
  /- windows, history, log -/
  | windowLength (s : State) (v : Nat) (h : 1 ≤ v ∧ v ≤ 65535) : Move k s { s with window.length := v }
  | markers (s : State) (m : Markers) : Move k s { s with history.markers := m }
  | mode (s : State) (m : HistoryMode) : Move k s { s with history.mode := m }
  | historyCursor (s : State) (p : Port) (c : Cursor)
      (h : s.HistoryRuns → c.InRing 10 (s.history.ring.map WindowRecord.seq)) : Move k s (s.setHistoryCursor p c)
  | logCursor (s : State) (p : Port) (c : Cursor)
      (h : s.LogRuns → c.InRing 6 (s.log.ring.map ServiceRecord.seq)) : Move k s (s.setLogCursor p c)
  | historyCleared (s : State) : Move k s { s with
      history.ring := []
      ports := s.ports.map fun i => { i with history := .past } }
  | logCleared (s : State) : Move k s { s with
      log.ring := []
      ports := s.ports.map fun i => { i with log := .past } }
  | logged (s : State) (e : Fin 64) (ticket : Nat) (o : LogOutcome) (wear renewals : Nat) :
      Move k s (s.appendLog e ticket o wear renewals)
  /- settings and the load book -/
  | zone (s : State) (z : Fin 8) (b : ZoneBook)
      (ho : b.owner = s.owner z ∨ (s.tickets.holds.get z).state = .free)
      (hf : (s.book.zones.get z).Fits → b.Fits) : Move k s { s with book.zones := s.book.zones.set z b }
  | weight (s : State) (i : Fin 8) (v : Nat) (h : v ≤ 255) :
      Move k s { s with book.weights := s.book.weights.set i v }
  | band (s : State) (i : Fin 8) (b : Band)
      (h : ((s.bands.get i).bound ≤ 65535 ∧ (s.bands.get i).factor ≤ 255) → b.bound ≤ 65535 ∧ b.factor ≤ 255) :
      Move k s { s with bands := s.bands.set i b }
  | shift (s : State) (v : Nat) (h : v ≤ 7) : Move k s { s with plan.shift := v }
  | horizon (s : State) (v : Nat) (h : v ≤ 65535) : Move k s ({ s with plan.horizon := v } : State).bringDue
  /- elements, epochs and windows -/
  | element (s : State) (n : Fin 64) (e : Element) (hr : s.ctl.op ≠ .retained)
      (h : Element.Change k n (s.onTicket n) (s.elements.get n) e)
      (hp : ∀ horizon, e.planned horizon = (s.elements.get n).planned horizon)
      (hT : e.projection = (s.elements.get n).projection) : Move k s (s.setElement n e)
  | restated (s : State) (n : Fin 64) (e : Element) (hr : s.ctl.op ≠ .retained)
      (h : Element.Change k n (s.onTicket n) (s.elements.get n) e) : Move k s (s.restateElement n e)
  | closed (s : State) (hr : s.ctl.op ≠ .retained) :
      Move k s s.accrueAll.countDownLoads.restartCounters.bringDue.countClose
  | windowEnded (s : State) (hr : s.ctl.op ≠ .retained) : Move k s s.endWindow
  /- tickets -/
  | tickets (s : State) (tk : TicketUnit) (hr : s.ctl.op ≠ .retained) (h : TicketChange k s tk) :
      Move k s { s with tickets := tk }
  | ticked (s : State) (hk : k.ticking) : Move k s s.countGrants
  /- the State Controller and the supply -/
  | votes (s : State) (v : PerPort Vote) (a b : Bool) :
      Move k s { s with ctl := { s.ctl with votes := v, fittedA := a, fittedB := b } }
  | brought (s : State) (op : OpState) (hr : s.ctl.op ≠ .retained) (h : op = .active ∨ op = .quiet) :
      Move k s { s with ctl.op := op }
  | parked (s : State) (hr : s.ctl.op ≠ .retained) (hz : s.pins.frozen = true) (hm : s.pacer.ms = 0)
      (hs : ∀ p, (s.ports.get p).select = false) (hf : ∀ z, (s.tickets.holds.get z).state = .free) :
      Move k s { s with ctl.op := .parked }
  | keep (s : State) (below : Bool) : Move k s { s with ctl := { s.ctl with vkeepLow := below }.fed }
  | monitor (s : State) (hr : s.ctl.op = .retained) (main rstn : Bool) :
      Move k s { s with ctl := { s.ctl with vmainLow := main, rstnLow := rstn }.fed }
  | lossOfReset (s : State) (hr : s.ctl.op = .retained) : Move k s { s with ctl.rstnLow := true }
  | retained (s : State) (hr : s.ctl.op ≠ .retained) : Move k s s.enterRetained
  | warm (s : State) (kind : StartKind)
      (h : s.ctl.op = .retained → s.ctl.vmainLow = false ∧ s.ctl.rstnLow = false) : Move k s (s.warmStart kind)
  | cold (s : State) (hk : k.resetting)
      (h : s.ctl.op = .retained → s.ctl.vmainLow = false ∧ s.ctl.rstnLow = false) : Move k s s.coldStart
  | disturbed (s : State) (hk : k.resetting) (n : Fin 64) (d : Disturbance) (hr : s.ctl.op = .retained)
      (h : ¬(((s.elements.get n).disturbed d).inUse = true ∧
        ((s.elements.get n).disturbed d).sum n = ((s.elements.get n).disturbed d).check)) :
      Move k s { s with elements := s.elements.set n ((s.elements.get n).disturbed d) }

/-- Moves one after another. -/
abbrev Moves (k : Scope) : State → State → Prop := Relation.ReflTransGen (Move k)

/-- What every move keeps, moves one after another keep. -/
theorem Moves.keep {k : Scope} {P : State → Prop} (h : ∀ {s t}, Move k s t → P s → P t) {s t : State}
    (m : Moves k s t) (hs : P s) : P t := by
  induction m with
  | refl => exact hs
  | tail _ last ih => exact h last ih

end Sys2Proof.Machine

/-! PROOF. Every operation of the device is a chain of moves: notices, what a close leaves outstanding, the close, the
bringing of the operating state, the release of a zone, lines and scans. -/

namespace Sys2Proof.Machine

section
variable {k : Scope} {s : State}

/-! ## Notices, ports and timers -/

theorem moves_raiseAt (n : Notice) (p : Port) : Moves k s (s.raiseAt n p) := .single (.notices s _)

theorem moves_raiseAll (n : Notice) : Moves k s (s.raiseAll n) := .single (.notices s _)

theorem moves_raiseOwners (n : Notice) (z : Fin 8) : Moves k s (s.raiseOwners n z) := by
  unfold State.raiseOwners
  dsimp only
  have ha : Moves k s (if (s.owner z).has .a then s.raiseAt n .a else s) := by
    split
    · exact moves_raiseAt n .a
    · exact .refl
  by_cases hb : (s.owner z).has .b = true
  · rw [if_pos hb]
    exact ha.trans (moves_raiseAt n .b)
  · rw [if_neg hb]
    exact ha

/-- Raising a notice at a zone's owners changes notices alone. -/
theorem raiseOwners_eq (s : State) (n : Notice) (z : Fin 8) :
    s.raiseOwners n z = { s with notices := (s.raiseOwners n z).notices } := by
  unfold State.raiseOwners
  split <;> split <;> rfl

/-- An interface rewritten with its cursors and its framing kept. -/
theorem moves_mapPort {p : Port} {f : Interface → Interface} (hh : ∀ i, (f i).history = i.history)
    (hl : ∀ i, (f i).log = i.log)
    (hf : (s.ports.get p).Framed s.ctl.op → (f (s.ports.get p)).Framed s.ctl.op) : Moves k s (s.mapPort p f) :=
  .single (.port s p _ (hh _) (hl _) hf)

/-- The contact-scan timer stands still in RETAINED (R11). -/
theorem scanTimerPeriod_retained (h : s.ctl.op = .retained) : s.scanTimerPeriod = none := by
  simp [State.scanTimerPeriod, h]

theorem moves_restartScan : Moves k s s.restartScan := .single (.timer s _ scanTimerPeriod_retained)

/-! ## The wake -/

theorem moves_wake (h : s.ctl.op ≠ .retained) : Moves k s s.wake := by
  have hvotes : Moves k s { s with ctl.votes := .all .run } :=
      .single (.votes s (.all .run) s.ctl.fittedA s.ctl.fittedB)
  have hop : Moves k s { s with ctl := { s.ctl with votes := .all .run, op := .active } } :=
    hvotes.tail (.brought _ .active h (.inl rfl))
  have hms : Moves k s { s with
      ctl := { s.ctl with votes := .all .run, op := .active }
      pacer.ms := 0 } := hop.tail (.ms _ 0 (Nat.zero_le _) (.inl rfl))
  exact (hms.trans moves_restartScan).trans (moves_raiseAll .woke)

theorem moves_wakeIfParked : Moves k s s.wakeIfParked := by
  unfold State.wakeIfParked
  split
  · exact moves_wake (by simp_all)
  · exact .refl

/-! ## What a close leaves outstanding -/

/-- A motion report taken changes tickets and notices alone (R120, R121). -/
theorem takeReport_eq (s : State) (z : Fin 8) : s.takeReport z = { s with
    tickets := (s.takeReport z).tickets
    notices := (s.takeReport z).notices } := by
  unfold State.takeReport
  dsimp only
  split <;> rfl

theorem moves_takeReport (h : s.ctl.op ≠ .retained) (z : Fin 8) : Moves k s (s.takeReport z) := by
  rw [takeReport_eq]
  exact (Relation.ReflTransGen.single (.tickets s _ h (.reported z))).tail (.notices _ _)

/-- Taking a report, if there is one, changes tickets and notices alone. -/
theorem takeReportIf_eq (s : State) (z : Fin 8) : s.takeReportIf z = { s with
    tickets := (s.takeReportIf z).tickets
    notices := (s.takeReportIf z).notices } := by
  unfold State.takeReportIf
  split
  · exact takeReport_eq s z
  · rfl

theorem moves_takeReportIf (h : s.ctl.op ≠ .retained) (z : Fin 8) : Moves k s (s.takeReportIf z) := by
  unfold State.takeReportIf
  split
  · exact moves_takeReport h z
  · exact .refl

/-- Taking reports changes tickets and notices alone. -/
theorem foldl_takeReportIf_eq (l : List (Fin 8)) (s : State) : l.foldl State.takeReportIf s = { s with
    tickets := (l.foldl State.takeReportIf s).tickets
    notices := (l.foldl State.takeReportIf s).notices } := by
  induction l generalizing s with
  | nil => rfl
  | cons z l ih =>
    rw [List.foldl_cons, ih, takeReportIf_eq]

@[simp] theorem foldl_takeReportIf_ctl (l : List (Fin 8)) (s : State) :
    (l.foldl State.takeReportIf s).ctl = s.ctl := by rw [foldl_takeReportIf_eq]

@[simp] theorem foldl_takeReportIf_pacer (l : List (Fin 8)) (s : State) :
    (l.foldl State.takeReportIf s).pacer = s.pacer := by rw [foldl_takeReportIf_eq]

theorem moves_foldl_takeReportIf (l : List (Fin 8)) {s : State} (h : s.ctl.op ≠ .retained) :
    Moves k s (l.foldl State.takeReportIf s) := by
  induction l generalizing s with
  | nil => exact .refl
  | cons z l ih => exact (moves_takeReportIf h z).trans (ih (by rw [takeReportIf_eq]; exact h))

theorem moves_endWindowIf (h : s.ctl.op ≠ .retained) : Moves k s s.endWindowIf := by
  unfold State.endWindowIf
  split
  · exact .single (.windowEnded s h)
  · exact .refl

@[simp] theorem endWindowIf_ctl (s : State) : s.endWindowIf.ctl = s.ctl := by
  unfold State.endWindowIf
  split <;> simp

@[simp] theorem endWindowIf_pacer (s : State) : s.endWindowIf.pacer = s.pacer := by
  unfold State.endWindowIf
  split <;> simp

@[simp] theorem endWindowIf_tickets (s : State) : s.endWindowIf.tickets = s.tickets := by
  unfold State.endWindowIf
  split <;> simp

@[simp] theorem settle_ctl (s : State) : s.settle.ctl = s.ctl := by simp [State.settle]

@[simp] theorem settle_pacer (s : State) : s.settle.pacer = s.pacer := by simp [State.settle]

theorem moves_settle (h : s.ctl.op ≠ .retained) : Moves k s s.settle :=
  (moves_foldl_takeReportIf _ h).trans (moves_endWindowIf (by simpa using h))

/-! ## The close -/

theorem moves_closeEpoch (h : s.ctl.op ≠ .retained) : Moves k s s.closeEpoch :=
  (moves_settle h).tail (.closed _ (by simpa using h))

@[simp] theorem closeEpoch_ctl_eq (s : State) : s.closeEpoch.ctl = s.ctl := by
  simp [State.closeEpoch, State.countClose, State.restartCounters, State.countDownLoads]

/-- A close begins a fresh epoch (R24). -/
@[simp] theorem closeEpoch_ms (s : State) : s.closeEpoch.pacer.ms = 0 := rfl

/-- A close leaves the hold records but for the reports it takes first (R24, R81). -/
theorem closeEpoch_holds (s : State) : s.closeEpoch.tickets.holds = s.settle.tickets.holds := by
  simp [State.closeEpoch, State.countClose, State.restartCounters, State.countDownLoads, State.accrueAll]

/-! ## The entry to PARKED -/

/-- A motion report is discarded by a FREE zone (R120). -/
theorem takeReport_free {z : Fin 8} (h : (s.tickets.holds.get z).state = .free) :
    s.takeReport z = { s with tickets.reports := s.tickets.reports.set z false } := by
  unfold State.takeReport
  simp only [h]

/-- While every zone is FREE, reports taken leave the hold records (R120). -/
theorem foldl_takeReportIf_holds (l : List (Fin 8)) {s : State} (h : ∀ z, (s.tickets.holds.get z).state = .free) :
    (l.foldl State.takeReportIf s).tickets.holds = s.tickets.holds := by
  induction l generalizing s with
  | nil => rfl
  | cons z l ih =>
    have hz : (s.takeReportIf z).tickets.holds = s.tickets.holds := by
      unfold State.takeReportIf
      split
      · rw [takeReport_free (h z)]
      · rfl
    rw [List.foldl_cons, ih (by simpa [hz] using h), hz]

theorem settle_holds (h : ∀ z, (s.tickets.holds.get z).state = .free) : s.settle.tickets.holds = s.tickets.holds := by
  simp [State.settle, foldl_takeReportIf_holds _ h]

/-- Nothing holds PARKED back only while every zone is FREE (R159). -/
theorem free_of_not_heldBack (h : s.heldBack = false) (z : Fin 8) : (s.tickets.holds.get z).state = .free := by
  by_contra hz
  have : s.tickets.holds.any (fun h => h.state != .free) = true :=
    (Table.any_iff s.tickets.holds _).mpr ⟨z, by simpa using hz⟩
  simp [State.heldBack, this] at h

/-- No chip select is asserted where none is on any port. -/
theorem select_of_not_anySelected (h : s.anySelected = false) (p : Port) : (s.ports.get p).select = false := by
  simp only [State.anySelected, Bool.or_eq_false_iff] at h
  obtain ⟨⟨ha, hb⟩, hm⟩ := h
  cases p with
  | a => exact ha
  | b => exact hb
  | m => exact hm

/-- The freeze of a device that enters PARKED, its state not yet PARKED (R161, step 4). -/
theorem moves_freeze (h : s.ctl.op ≠ .retained) (held : Table (Option Bool) 24) :
    Moves k s { s with pins := { s.pins with held := held, frozen := true } } :=
  (Relation.ReflTransGen.single (.held s held)).tail (.frozen { s with pins.held := held } h)

theorem moves_enterParked (h : s.ctl.op ≠ .retained) (hm : s.pacer.ms = 0)
    (hs : ∀ p, (s.ports.get p).select = false) (hf : ∀ z, (s.tickets.holds.get z).state = .free) :
    Moves k s s.enterParked := by
  have hz : Moves k s { s with pins := s.enterParked.pins } := moves_freeze h _
  have hop : Moves k s { s with pins := s.enterParked.pins, ctl.op := .parked } :=
    hz.tail (.parked _ h rfl hm hs hf)
  exact hop.tail (.timer _ s.enterParked.scan.timer fun hr => by cases hr)

theorem moves_enterParked_wake (h : s.ctl.op ≠ .retained) : Moves k s s.enterParked.wake := by
  have hz : Moves k s { s with pins := s.enterParked.pins } := moves_freeze h _
  exact hz.trans (moves_wake (s := { s with pins := s.enterParked.pins }) h)

/-- The rest of the entry once the close is taken (R161, R163). -/
theorem moves_parkEntry_rest (h : s.ctl.op ≠ .retained) (hm : s.pacer.ms = 0)
    (hf : ∀ z, (s.tickets.holds.get z).state = .free) :
    Moves k s (if s.enterParked.anySelected then s.enterParked.wake else s.enterParked) := by
  by_cases hs : s.enterParked.anySelected = true
  · rw [if_pos hs]
    exact moves_enterParked_wake h
  · rw [if_neg hs]
    exact moves_enterParked h hm (select_of_not_anySelected (s := s) (Bool.not_eq_true _ ▸ hs)) hf

/-- What is outstanding taken, the PARK marker, the close and what it leaves outstanding: an entry as far as that
leaves the state, the epoch and the hold records as the rest of it asks (R161). -/
theorem parkClose_holds (hf : ∀ z, (s.tickets.holds.get z).state = .free) :
    s.settle.parkMarked.closeEpoch.settle.tickets.holds = s.tickets.holds := by
  have hmarked : s.settle.parkMarked.tickets.holds = s.tickets.holds := by
    rw [State.parkMarked_tickets, settle_holds hf]
  have hclosed : s.settle.parkMarked.closeEpoch.tickets.holds = s.tickets.holds := by
    rw [closeEpoch_holds, settle_holds (by rwa [hmarked]), hmarked]
  rw [settle_holds (by rwa [hclosed]), hclosed]

theorem moves_parkEntry (h : s.ctl.op ≠ .retained) (hf : ∀ z, (s.tickets.holds.get z).state = .free) :
    Moves k s s.parkEntry := by
  have hctl : s.settle.parkMarked.ctl.op ≠ .retained := by simpa using h
  have hclose : Moves k s s.settle.parkMarked.closeEpoch :=
    ((moves_settle h).tail (.markers _ _)).trans (moves_closeEpoch hctl)
  have hsettle : Moves k s s.settle.parkMarked.closeEpoch.settle :=
    hclose.trans (moves_settle (by rwa [closeEpoch_ctl_eq]))
  exact hsettle.trans (moves_parkEntry_rest (by rwa [settle_ctl, closeEpoch_ctl_eq])
    (by rw [settle_pacer, closeEpoch_ms]) (by rwa [parkClose_holds hf]))

/-! ## The bringing of the operating state -/

theorem ne_retained_of_running (h : s.running = true) : s.ctl.op ≠ .retained := by
  intro e
  simp [State.running, e] at h

/-- A bringing arrives at ACTIVE, QUIET or PARKED, at PARKED with nothing held back (R158, R159). -/
theorem broughtTo_cases (s : State) :
    s.broughtTo = .active ∨ s.broughtTo = .quiet ∨ (s.broughtTo = .parked ∧ s.heldBack = false) := by
  unfold State.broughtTo
  split
  · exact .inr (.inl rfl)
  · rename_i hp
    obtain ⟨-, h⟩ | ⟨-, -, h⟩ | ⟨-, -, h⟩ := s.ctl.requested_cases
    · exact .inl h
    · exact .inr (.inr ⟨h, by simpa [h] using hp⟩)
    · exact .inr (.inl h)

theorem moves_bring : Moves k s s.bring := by
  unfold State.bring
  split
  · rename_i hr
    have hop := ne_retained_of_running hr
    split
    · exact .refl
    · split
      · rename_i hp
        obtain h | h | ⟨-, h⟩ := broughtTo_cases s
        · simp [h] at hp
        · simp [h] at hp
        · exact moves_parkEntry hop (free_of_not_heldBack h)
      · rename_i hp
        have hto : s.broughtTo = .active ∨ s.broughtTo = .quiet := by
          obtain h | h | ⟨h, -⟩ := broughtTo_cases s
          · exact .inl h
          · exact .inr h
          · exact absurd h hp
        exact (Relation.ReflTransGen.single (.brought s _ hop hto)).trans moves_restartScan
  · exact .refl

/-! ## Demands -/

/-- A demand lowered, from a device whose tickets stand in `table`: the hold record lowered in one move, then, where
that leaves the zone FREE, RELEASED and the bringing (R118, R119, R126). -/
theorem lowerDemand_eq (s : State) (z : Fin 8) : s.lowerDemand z =
    let u : State := s.mapHold z HoldRecord.lowered
    if (s.tickets.holds.get z).demand - 1 = 0 then (u.raiseOwners .released z).bring else u := by
  unfold State.lowerDemand State.release
  simp only [State.mapHold_tickets, Table.get_modify_same]
  have htwice : ∀ (t : State) (f g h : HoldRecord → HoldRecord),
      g (f (t.tickets.holds.get z)) = h (t.tickets.holds.get z) → (t.mapHold z f).mapHold z g = t.mapHold z h := by
    intro t f g h he
    have : (t.tickets.holds.modify z f).modify z g = t.tickets.holds.modify z h := by
      refine Table.ext_get fun i => ?_
      by_cases hi : i = z
      · simp [hi, he]
      · simp [Table.get_modify, hi]
    simp [State.mapHold, this]
  split
  · rename_i hz
    rw [htwice s _ _ HoldRecord.lowered (by simp [HoldRecord.lowered, hz])]
  · rename_i hz
    have : (s.tickets.holds.modify z fun h => { h with demand := h.demand - 1 }) =
        s.tickets.holds.modify z HoldRecord.lowered := by
      refine Table.ext_get fun i => ?_
      by_cases hi : i = z
      · simp [hi, HoldRecord.lowered, hz]
      · simp [Table.get_modify, hi]
    simp [State.mapHold, this]

/-- A demand lowered is a change of the Ticket Unit and moves after it. -/
theorem moves_lowerDemand {u : State} {z : Fin 8} (h : Moves k s (u.mapHold z HoldRecord.lowered)) :
    Moves k s (u.lowerDemand z) := by
  rw [lowerDemand_eq]
  dsimp only
  split
  · exact (h.trans (moves_raiseOwners _ _)).trans moves_bring
  · exact h

/-! ## Expiries -/

theorem moves_expireNumber (n : Nat) : Moves k s (s.expireNumber n) := by
  unfold State.expireNumber
  split
  · rename_i t ht
    split
    · rename_i hc
      simp only [Bool.and_eq_true, decide_eq_true_eq] at hc
      obtain ⟨hr, ha⟩ := hc
      have hop := ne_retained_of_running hr
      refine moves_lowerDemand ?_
      have htk := Relation.ReflTransGen.single (Move.tickets (k := k) s _ hop (.stalled n t ht ha))
      rw [raiseOwners_eq]
      exact htk.tail (.notices _ _)
    · exact .refl
  · exact .refl

theorem moves_foldl_expireNumber (l : List Nat) {s : State} : Moves k s (l.foldl State.expireNumber s) := by
  induction l generalizing s with
  | nil => exact .refl
  | cons n l ih => exact (moves_expireNumber n).trans ih

/-! ## Lines -/

theorem moves_gateOpened (h : s.ctl.op ≠ .retained) (z : Fin 8) : Moves k s (s.gateOpened z) := by
  have he : s.gateOpened z = { s with
      tickets := (s.gateOpened z).tickets
      notices := (s.gateOpened z).notices } := by
    unfold State.gateOpened
    split <;> rfl
  rw [he]
  exact (Relation.ReflTransGen.single (.tickets s _ h (.gate z))).tail (.notices _ _)

/-- A record written among others that are left. -/
theorem counted_set {ls : Table Line 24} {i : Fin 24} {l : Line} (h : (ls.get i).Counted → l.Counted) (j : Fin 24)
    (hj : (ls.get j).Counted) : ((ls.set i l).get j).Counted := by
  rw [Table.get_set]
  split
  · rename_i e
    exact h (e ▸ hj)
  · exact hj

theorem moves_writeLine {i : Fin 24} {l : Line} (h : (s.lines.get i).Counted → l.Counted) :
    Moves k s (s.writeLine i l) :=
  (Relation.ReflTransGen.single (.lines s (s.lines.set i l) (counted_set h))).tail (.held _ _)

theorem moves_writeLineGate {i : Fin 24} {l : Line} (hr : s.ctl.op ≠ .retained)
    (h : (s.lines.get i).Counted → l.Counted) : Moves k s (s.writeLineGate i l) := by
  unfold State.writeLineGate
  split
  · split
    · exact moves_writeLine h
    · exact (moves_writeLine h).trans (moves_gateOpened (s := s.writeLine i l) hr _)
  · exact moves_writeLine h

theorem moves_countPulse {i : Fin 24} (ht : (s.lines.get i).function = .tach) : Moves k s (s.countPulse i) := by
  unfold State.countPulse
  split
  · rename_i hc
    refine .single (.lines s _ (counted_set fun _ => ⟨hc, fun hn => absurd ht hn⟩))
  · exact moves_raiseAt _ _

theorem moves_acceptLevel (i : Fin 24) (b : Bool) : Moves k s (s.acceptLevel i b) :=
  (Relation.ReflTransGen.single
    (.lines s (s.lines.set i { s.lines.get i with filtered := some b }) (counted_set fun h => h))).tail
    (.input { s with lines := s.lines.set i { s.lines.get i with filtered := some b } } (withPin s.pins.input i b))

theorem moves_takeLevel (hr : s.ctl.op ≠ .retained) (i : Fin 24) (before : Option Bool) (level : Bool) :
    Moves k s (s.takeLevel i before level) := by
  unfold State.takeLevel
  dsimp only
  split
  case h_1 hf _ =>
    split
    · split
      · exact (moves_countPulse hf).trans moves_wakeIfParked
      · exact moves_countPulse hf
    · exact .refl
  case h_2 =>
    have hg : Moves k s (if level = (s.lines.get i).polarity then s.gateOpened (s.lines.get i).zone else s) := by
      split
      · exact moves_gateOpened hr _
      · exact .refl
    split
    · exact hg.trans moves_wakeIfParked
    · exact hg
  all_goals exact .refl

/-- A line after a scan is counted as before it (R8, R10). -/
theorem Line.afterScan_counted {l : Line} {op : OpState} {b : Bool} (h : l.Counted) : (l.afterScan op b).Counted := by
  obtain ⟨hc, hf⟩ := h
  unfold Line.afterScan
  split
  · rename_i hs
    have ht : l.function = .tach := by
      simp only [Line.scanned, Line.isContact, Bool.and_eq_true, decide_eq_true_eq] at hs
      exact hs.1.1
    refine ⟨?_, fun hn => absurd ht hn⟩
    dsimp only
    split
    · exact min_le_left _ _
    · exact hc
  · exact ⟨hc, hf⟩

/-- A scan's samples and counts, its levels and its timer (R10, R11). -/
theorem moves_sampled (levels : Pins) :
    Moves k s ({ s with
      lines := s.lines.mapIdx fun i l => l.afterScan s.ctl.op (levels.getLsbD i.val)
      scan.contacts := levels } : State).restartScan := by
  have hlines : Moves k s { s with
      lines := s.lines.mapIdx fun i l => l.afterScan s.ctl.op (levels.getLsbD i.val) } :=
    .single (.lines s _ fun i h => by simpa using Line.afterScan_counted h)
  exact (hlines.tail (.contacts _ levels)).trans moves_restartScan

theorem moves_scanContacts (levels : Pins) : Moves k s (s.scanContacts levels) := by
  unfold State.scanContacts
  split
  · exact .refl
  · dsimp only
    have hovr (b : Bool) (u : State) (h : Moves k s u) : Moves k s (if b then u.raiseAt .overrun .m else u) := by
      cases b with
      | true => exact h.trans (moves_raiseAt _ _)
      | false => exact h
    split
    · exact (hovr _ _ (moves_sampled levels)).trans moves_wakeIfParked
    · exact hovr _ _ (moves_sampled levels)

end

end Sys2Proof.Machine

/-! PROOF. Every command, taken on a device outside RETAINED, is a chain of moves; so is every frame, every event and
every step. -/

namespace Sys2Proof.Machine

/-! ## Commands -/

/-- On any device a command can be taken on, the command is a chain of moves. -/
def MovesBy (k : Scope) (effect : State → Taken) : Prop :=
  ∀ s : State, s.ctl.op ≠ .retained → (k.woken → s.ctl.op ≠ .parked) → Moves k s (effect s).state

section
variable {k : Scope} {s : State}

/-- An operand that names nothing moves nothing. -/
theorem moves_orBadArg {α : Type} {x : Option α} {f : α → Taken} (h : ∀ v, x = some v → Moves k s (f v).state) :
    Moves k s (orBadArg s x f).state := by
  cases x with
  | none => exact .refl
  | some v => exact h v rfl

/-- A number that no ticket bears moves nothing. -/
theorem moves_withTicket {n : Nat} {f : Ticket → Taken} (h : ∀ t, s.ticket? n = some t → Moves k s (f t).state) :
    Moves k s (withTicket s n f).state := by
  unfold withTicket
  split
  · rename_i t ht
    exact h t ht
  · exact .refl

theorem within_eq_some {lo hi v w : Nat} (h : within lo hi v = some w) : w = v ∧ lo ≤ v ∧ v ≤ hi := by
  unfold within at h
  split at h
  · rename_i hv
    exact ⟨(Option.some.inj h).symm, hv⟩
  · cases h

theorem clampedUp_eq_some {lo hi v w : Nat} (h : clampedUp lo hi v = some w) : w = max lo v ∧ v ≤ hi := by
  unfold clampedUp at h
  split at h
  · rename_i hv
    exact ⟨(Option.some.inj h).symm, hv⟩
  · cases h

end

section
variable {k : Scope}

/-- A command that only reads moves nothing. -/
theorem movesBy_of_state {effect : State → Taken} (h : ∀ s, (effect s).state = s) : MovesBy k effect := by
  intro s _ _
  rw [h]

theorem orBadArg_answered_state {α : Type} (s : State) (x : Option α) (d : α → Nat) :
    (orBadArg s x fun v => answered s (d v)).state = s := by
  cases x <;> rfl

/-! ### Status, notices, freeze and votes -/

theorem nopEffect_moves : MovesBy k nopEffect := movesBy_of_state fun _ => rfl

theorem readStatusEffect_moves (sel : Byte) : MovesBy k (readStatusEffect sel) :=
  movesBy_of_state fun s => orBadArg_answered_state s _ id

theorem readNoticesEffect_moves (p : Port) (sel : Byte) : MovesBy k (readNoticesEffect p sel) := by
  intro s _ _
  unfold readNoticesEffect
  split
  · exact .single (.notices s _)
  all_goals exact .refl

theorem setNoticeMaskEffect_moves (p : Port) (val : Word) : MovesBy k (setNoticeMaskEffect p val) :=
  fun s _ _ => moves_orBadArg fun _ _ => .single (.notices s _)

theorem pageEffect_moves (sel : Byte) : MovesBy k (pageEffect sel) :=
  fun _ _ _ => moves_orBadArg fun target _ => moves_raiseAt .page target

theorem unfreezeEffect_moves : MovesBy k unfreezeEffect := by
  intro s _ hw
  by_cases hf : s.pins.frozen = true
  · have he : (unfreezeEffect s).state =
        { s with pins := { s.pins with held := .ofFn fun _ => none, frozen := false } } := by
      simp [unfreezeEffect, answered, hf]
    rw [he]
    exact (Relation.ReflTransGen.single (.held s (.ofFn fun _ => none))).tail
      (.unfrozen { s with pins.held := .ofFn fun _ => none } hw)
  · have he : (unfreezeEffect s).state = s := by simp [unfreezeEffect, answered, hf]
    rw [he]

theorem voteEffect_moves (p : Port) (val : Word) : MovesBy k (voteEffect p val) :=
  fun s _ _ => moves_orBadArg fun v _ =>
    (Relation.ReflTransGen.single (.votes s (s.ctl.votes.set p v) s.ctl.fittedA s.ctl.fittedB)).trans moves_bring

/-! ### Lines -/

theorem setLineWith_moves {α : Type} (sel : Byte) (value : Option α) {f : α → Line → Line}
    (h : ∀ v l, l.Counted → (f v l).Counted) : MovesBy k (setLineWith sel value f) :=
  fun _ hr _ => moves_orBadArg fun _ _ => moves_orBadArg fun v _ => moves_writeLineGate hr (h v _)

theorem Line.withFunction_counted (f : LineFunction) (l : Line) (h : l.Counted) : (l.withFunction f).Counted := by
  unfold Line.withFunction
  split
  · exact h
  · exact ⟨Nat.zero_le _, fun _ => rfl⟩

theorem Line.withSensing_counted (m : Sensing) (l : Line) (h : l.Counted) : (l.withSensing m).Counted := by
  unfold Line.withSensing
  split <;> exact h

theorem Line.withPolarity_counted (b : Bool) (l : Line) (h : l.Counted) : (l.withPolarity b).Counted := by
  unfold Line.withPolarity
  split <;> exact h

theorem setLineFunctionEffect_moves (sel : Byte) (fv : FieldValue) : MovesBy k (setLineFunctionEffect sel fv) :=
  setLineWith_moves _ _ Line.withFunction_counted

theorem setLineDirectionEffect_moves (sel : Byte) (fv : FieldValue) : MovesBy k (setLineDirectionEffect sel fv) :=
  setLineWith_moves _ _ fun _ _ h => h

theorem setLineLevelFieldEffect_moves (sel : Byte) (fv : FieldValue) : MovesBy k (setLineLevelFieldEffect sel fv) :=
  setLineWith_moves _ _ fun _ _ h => h

theorem setLinePullUpEffect_moves (sel : Byte) (fv : FieldValue) : MovesBy k (setLinePullUpEffect sel fv) :=
  setLineWith_moves _ _ fun _ _ h => h

theorem setLineFloatEffect_moves (sel : Byte) (fv : FieldValue) : MovesBy k (setLineFloatEffect sel fv) :=
  setLineWith_moves _ _ fun _ _ h => h

theorem setLineSensingModeEffect_moves (sel : Byte) (fv : FieldValue) : MovesBy k (setLineSensingModeEffect sel fv) :=
  setLineWith_moves _ _ Line.withSensing_counted

theorem setLinePolarityEffect_moves (sel : Byte) (fv : FieldValue) : MovesBy k (setLinePolarityEffect sel fv) :=
  setLineWith_moves _ _ Line.withPolarity_counted

theorem setLineWakeEnableEffect_moves (sel : Byte) (fv : FieldValue) : MovesBy k (setLineWakeEnableEffect sel fv) :=
  setLineWith_moves _ _ fun _ _ h => h

theorem setLineZoneEffect_moves (sel : Byte) (fv : FieldValue) : MovesBy k (setLineZoneEffect sel fv) :=
  setLineWith_moves _ _ fun _ _ h => h

theorem setLineOwnerSideEffect_moves (sel : Byte) (fv : FieldValue) : MovesBy k (setLineOwnerSideEffect sel fv) :=
  setLineWith_moves _ _ fun _ _ h => h

theorem setLineEffect_moves (sel idx : Byte) (fv : FieldValue) : MovesBy k (setLineEffect sel idx fv) := by
  intro s hr hw
  unfold setLineEffect
  split
  · exact setLineFunctionEffect_moves sel fv s hr hw
  · exact setLineDirectionEffect_moves sel fv s hr hw
  · exact setLineLevelFieldEffect_moves sel fv s hr hw
  · exact setLinePullUpEffect_moves sel fv s hr hw
  · exact setLineFloatEffect_moves sel fv s hr hw
  · exact setLineSensingModeEffect_moves sel fv s hr hw
  · exact setLinePolarityEffect_moves sel fv s hr hw
  · exact setLineWakeEnableEffect_moves sel fv s hr hw
  · exact setLineZoneEffect_moves sel fv s hr hw
  · exact setLineOwnerSideEffect_moves sel fv s hr hw
  · exact .refl

theorem readLineSettingEffect_moves (sel : Byte) (val : Word) : MovesBy k (readLineSettingEffect sel val) :=
  fun _ _ _ => moves_orBadArg fun _ _ => moves_orBadArg fun _ _ => .refl

theorem setLineLevelEffect_moves (sel : Byte) (val : Word) : MovesBy k (setLineLevelEffect sel val) :=
  fun _ _ _ => moves_orBadArg fun _ _ => moves_orBadArg fun _ _ => moves_writeLine fun h => h

theorem readLinesEffect_moves (levels : Pins) : MovesBy k (readLinesEffect levels) :=
  fun s _ _ => .single (.input s levels)

/-! ### Rings -/

/-- A cursor that moved on stands in the ring or past newest. -/
theorem advanceCursor_inRing {α : Type} (seqOf : α → Nat) (last : Nat) (ring : List α) {q f : Nat}
    (hq : q ∈ ring.map seqOf) : (advanceCursor seqOf last ring q f).InRing last (ring.map seqOf) := by
  unfold advanceCursor
  split
  · rename_i hf
    exact ⟨hq, hf⟩
  · split
    · rename_i q' hn
      unfold newerThan at hn
      split at hn
      · rename_i a r rest hd
        cases hn
        have hmem : r ∈ ring.dropWhile fun r => seqOf r != q := by simp [hd]
        exact ⟨List.mem_map_of_mem (List.dropWhile_subset _ hmem), Nat.zero_le _⟩
      · cases hn
    · trivial

theorem rewound_inRing {α : Type} (seqOf : α → Nat) (last : Nat) (ring : List α) :
    (rewound seqOf ring).InRing last (ring.map seqOf) := by
  cases ring with
  | nil => trivial
  | cons r rest => exact ⟨List.mem_map_of_mem (.head _), Nat.zero_le _⟩

theorem readLogEffect_moves (p : Port) (sel : Byte) : MovesBy k (readLogEffect p sel) := by
  intro s _ _
  unfold readLogEffect
  split
  · unfold readLogField
    split
    · exact .refl
    · split
      · rename_i r hr
        refine .single (.logCursor s p _ fun _ => advanceCursor_inRing _ _ _ ?_)
        have hq := List.find?_some hr
        simp only [decide_eq_true_eq] at hq
        exact hq ▸ List.mem_map_of_mem (List.mem_of_find?_eq_some hr)
      · exact .refl
  all_goals exact .refl

theorem rewindLogEffect_moves (p : Port) : MovesBy k (rewindLogEffect p) :=
  fun s _ _ => .single (.logCursor s p _ fun _ => rewound_inRing _ _ _)

theorem clearLogEffect_moves : MovesBy k clearLogEffect := fun s _ _ => .single (.logCleared s)

/-- READ-HISTORY past newest leaves the cursor or puts it on field 1 of the oldest record (R35). -/
theorem readHistoryPast_moves (p : Port) (s : State) : Moves k s (readHistoryPast p s).state := by
  unfold readHistoryPast
  split
  · exact .refl
  · exact .refl
  · rename_i r rest hr
    exact .single (.historyCursor s p _ fun _ => by simp [hr, Cursor.InRing])

theorem readHistoryEffect_moves (p : Port) (sel : Byte) : MovesBy k (readHistoryEffect p sel) := by
  intro s _ _
  unfold readHistoryEffect
  split
  · unfold readHistoryField
    split
    · exact readHistoryPast_moves p s
    · split
      · rename_i r hr
        refine .single (.historyCursor s p _ fun _ => advanceCursor_inRing _ _ _ ?_)
        have hq := List.find?_some hr
        simp only [decide_eq_true_eq] at hq
        exact hq ▸ List.mem_map_of_mem (List.mem_of_find?_eq_some hr)
      · exact readHistoryPast_moves p s
  all_goals exact .refl

theorem rewindHistoryEffect_moves (p : Port) : MovesBy k (rewindHistoryEffect p) :=
  fun s _ _ => .single (.historyCursor s p _ fun _ => rewound_inRing _ _ _)

theorem clearHistoryEffect_moves : MovesBy k clearHistoryEffect := fun s _ _ => .single (.historyCleared s)

theorem shiftMarkEffect_moves : MovesBy k shiftMarkEffect := fun s _ _ => .single (.markers s _)

/-! ### Starts -/

theorem softResetEffect_moves : MovesBy k softResetEffect :=
  fun s hr _ => (moves_settle hr).tail (.warm s.settle .soft fun h => absurd (settle_ctl s ▸ h) hr)

theorem clearAllEffect_moves (hk : k.resetting) : MovesBy k clearAllEffect :=
  fun s hr _ => .single (.cold s hk fun h => absurd h hr)

/-! ### Settings and tables -/

theorem setEpochDividerEffect_moves (val : Word) : MovesBy k (setEpochDividerEffect val) := by
  refine fun s hr _ => moves_orBadArg fun d hd => ?_
  obtain ⟨rfl, -, hd⟩ := within_eq_some hd
  have hm : Moves k s { s.settle with history.markers.divider := true } := (moves_settle hr).tail (.markers _ _)
  have hc : Moves k s ({ s.settle with history.markers.divider := true } : State).closeEpoch :=
    hm.trans (moves_closeEpoch (by simpa using hr))
  exact hc.tail (.divider _ _ hd (closeEpoch_ms _))

theorem setWindowLengthEffect_moves (val : Word) : MovesBy k (setWindowLengthEffect val) := by
  refine fun s _ _ => moves_orBadArg fun v hv => ?_
  obtain ⟨rfl, hv⟩ := clampedUp_eq_some hv
  exact .single (.windowLength s _ (by omega))

theorem setHistoryModeEffect_moves (val : Word) : MovesBy k (setHistoryModeEffect val) :=
  fun s _ _ => moves_orBadArg fun _ _ => .single (.mode s _)

/-- A report of a port that stops being an owner lapses; any other report still agrees (R42, R44). -/
theorem LoadReport.lapse_agrees {r : LoadReport} {o : Prop} (h : r.cls ≤ 7) : r.lapse.Agrees o :=
  ⟨h, fun _ => rfl, fun e => by cases e⟩

/-- A port is an owner under the settings that name it (R40). -/
theorem Owner.has_a_iff {o : Owner} : o.has .a = true ↔ o = .a ∨ o = .both := by cases o <;> simp [Owner.has]

theorem Owner.has_b_iff {o : Owner} : o.has .b = true ↔ o = .b ∨ o = .both := by cases o <;> simp [Owner.has]

/-- A report under a new owner setting, lapsed where its port stops being an owner (R42). -/
theorem LoadReport.agrees_withOwner {r : LoadReport} {before after : Bool} {o o' : Prop} (hb : before = true ↔ o)
    (ha : after = true ↔ o') (h : r.Agrees o) : (if before && !after then r.lapse else r).Agrees o' := by
  obtain ⟨hc, hl, hs⟩ := h
  cases after with
  | true => simpa using ⟨hc, hl, fun e => ⟨ha.mp rfl, (hs e).2⟩⟩
  | false =>
    cases before with
    | true => exact lapse_agrees hc
    | false =>
      refine ⟨hc, hl, fun e => ?_⟩
      exact absurd (hb.mpr (hs e).1) (by simp)

theorem ZoneBook.withOwner_fits (b : ZoneBook) (o : Owner) (h : b.Fits) : (b.withOwner o).Fits := by
  obtain ⟨hf, ht, ha, hb⟩ := h
  exact ⟨hf, ht, LoadReport.agrees_withOwner Owner.has_a_iff Owner.has_a_iff ha,
    LoadReport.agrees_withOwner Owner.has_b_iff Owner.has_b_iff hb⟩

theorem setZoneOwnerEffect_moves (idx : Byte) (fv : FieldValue) : MovesBy k (setZoneOwnerEffect idx fv) := by
  refine fun s _ _ => moves_orBadArg fun z _ => moves_orBadArg fun o _ => ?_
  split
  · rename_i hf
    exact .single (.zone s z _ (.inr hf) (ZoneBook.withOwner_fits _ o))
  · exact .refl

theorem setFallbackClassEffect_moves (idx : Byte) (fv : FieldValue) : MovesBy k (setFallbackClassEffect idx fv) := by
  refine fun s _ _ => moves_orBadArg fun z _ => moves_orBadArg fun v hv => ?_
  obtain ⟨rfl, -, hv⟩ := within_eq_some hv
  exact .single (.zone s z _ (.inl rfl) fun ⟨_, h⟩ => ⟨hv, h⟩)

theorem setHoldTimeEffect_moves (idx : Byte) (fv : FieldValue) : MovesBy k (setHoldTimeEffect idx fv) := by
  refine fun s _ _ => moves_orBadArg fun z _ => moves_orBadArg fun v hv => ?_
  obtain ⟨rfl, hv⟩ := clampedUp_eq_some hv
  exact .single (.zone s z _ (.inl rfl) fun ⟨hf, _, h⟩ => ⟨hf, by dsimp only; omega, h⟩)

theorem setLoadWeightEffect_moves (idx : Byte) (fv : FieldValue) : MovesBy k (setLoadWeightEffect idx fv) := by
  refine fun s _ _ => moves_orBadArg fun i _ => moves_orBadArg fun v hv => ?_
  obtain ⟨rfl, -, hv⟩ := within_eq_some hv
  exact .single (.weight s i _ hv)

theorem setSpeedBandBoundEffect_moves (idx : Byte) (fv : FieldValue) : MovesBy k (setSpeedBandBoundEffect idx fv) := by
  refine fun s _ _ => moves_orBadArg fun i _ => moves_orBadArg fun v hv => ?_
  obtain ⟨rfl, -, hv⟩ := within_eq_some hv
  exact .single (.band s i _ fun ⟨_, h⟩ => ⟨hv, h⟩)

theorem setSpeedBandFactorEffect_moves (idx : Byte) (fv : FieldValue) :
    MovesBy k (setSpeedBandFactorEffect idx fv) := by
  refine fun s _ _ => moves_orBadArg fun i _ => moves_orBadArg fun v hv => ?_
  obtain ⟨rfl, -, hv⟩ := within_eq_some hv
  exact .single (.band s i _ fun ⟨h, _⟩ => ⟨h, hv⟩)

theorem setSmoothingShiftEffect_moves (val : Word) : MovesBy k (setSmoothingShiftEffect val) :=
  fun s _ _ => .single (.shift s _ (min_le_left _ _))

theorem setHorizonEffect_moves (val : Word) : MovesBy k (setHorizonEffect val) := by
  refine fun s _ _ => moves_orBadArg fun v hv => ?_
  obtain ⟨rfl, -, hv⟩ := within_eq_some hv
  exact .single (.horizon s _ hv)

theorem setGrantTimeEffect_moves (val : Word) : MovesBy k (setGrantTimeEffect val) := by
  refine fun s hr _ => moves_orBadArg fun v hv => ?_
  obtain ⟨rfl, hv⟩ := clampedUp_eq_some hv
  exact .single (.tickets s _ hr (.grantTime _ (by omega)))

theorem setFittedFlagEffect_moves (side : Side) (val : Word) : MovesBy k (setFittedFlagEffect side val) := by
  refine fun s _ _ => moves_orBadArg fun b _ => ?_
  have hc : Moves k s { s with ctl := s.ctl.withFitted side b } := by
    cases side with
    | a => exact .single (.votes s s.ctl.votes b s.ctl.fittedB)
    | b => exact .single (.votes s s.ctl.votes s.ctl.fittedA b)
  exact hc.trans moves_bring

/-- The scan timer may restart after any of its settings is written. -/
theorem moves_restartScan_if (P : Prop) [Decidable P] {s : State} : Moves k s (if P then s.restartScan else s) := by
  split
  · exact moves_restartScan
  · exact .refl

theorem setQuietScanIndexEffect_moves (val : Word) : MovesBy k (setQuietScanIndexEffect val) := by
  refine fun s _ _ => moves_orBadArg fun v hv => ?_
  obtain ⟨rfl, -, hv⟩ := within_eq_some hv
  exact (Relation.ReflTransGen.single (.quietIndex s _ hv)).trans (moves_restartScan_if _)

theorem setParkScanIndexEffect_moves (val : Word) : MovesBy k (setParkScanIndexEffect val) := by
  refine fun s _ _ => moves_orBadArg fun v hv => ?_
  obtain ⟨rfl, -, hv⟩ := within_eq_some hv
  exact (Relation.ReflTransGen.single (.parkIndex s _ hv)).trans (moves_restartScan_if _)

theorem setTableEffect_moves (item : Byte) (val : Word) : MovesBy k (setTableEffect item val) := by
  intro s hr hw
  unfold setTableEffect
  split
  · exact setEpochDividerEffect_moves val s hr hw
  · exact setWindowLengthEffect_moves val s hr hw
  · exact setHistoryModeEffect_moves val s hr hw
  · exact setZoneOwnerEffect_moves _ _ s hr hw
  · exact setFallbackClassEffect_moves _ _ s hr hw
  · exact setHoldTimeEffect_moves _ _ s hr hw
  · exact setLoadWeightEffect_moves _ _ s hr hw
  · exact setSpeedBandBoundEffect_moves _ _ s hr hw
  · exact setSpeedBandFactorEffect_moves _ _ s hr hw
  · exact setSmoothingShiftEffect_moves val s hr hw
  · exact setHorizonEffect_moves val s hr hw
  · exact setGrantTimeEffect_moves val s hr hw
  · exact setFittedFlagEffect_moves .a val s hr hw
  · exact setFittedFlagEffect_moves .b val s hr hw
  · exact setQuietScanIndexEffect_moves val s hr hw
  · exact setParkScanIndexEffect_moves val s hr hw
  · exact .refl

theorem readTableEffect_moves (item idx : Byte) : MovesBy k (readTableEffect item idx) :=
  movesBy_of_state fun s => orBadArg_answered_state s _ id

/-- A report just loaded stands, its port an owner, with the zone's hold time (R44, R45). -/
theorem LoadReport.loaded_agrees {cls hold : Nat} {o : Prop} (hc : cls ≤ 7) (ho : o) (ht : 1 ≤ hold ∧ hold ≤ 255) :
    LoadReport.Agrees ⟨cls, hold, false⟩ o :=
  ⟨hc, fun e => Bool.noConfusion e, fun _ => ⟨ho, ht⟩⟩

theorem ZoneBook.reported_fits {b : ZoneBook} {side : Side} {cls : Nat} (hc : cls ≤ 7)
    (ho : b.owner.has side = true) (h : b.Fits) : (b.reported side cls).Fits := by
  obtain ⟨hf, ht, ha, hb⟩ := h
  cases side with
  | a => exact ⟨hf, ht, LoadReport.loaded_agrees hc (Owner.has_a_iff.mp ho) ht, hb⟩
  | b => exact ⟨hf, ht, ha, LoadReport.loaded_agrees hc (Owner.has_b_iff.mp ho) ht⟩

/-- A report loaded leaves the owner (R45). -/
theorem ZoneBook.reported_owner (b : ZoneBook) (side : Side) (cls : Nat) : (b.reported side cls).owner = b.owner := by
  cases side <;> rfl

theorem loadEffect_moves (p : Port) (sel : Byte) (val : Word) : MovesBy k (loadEffect p sel val) := by
  refine fun s _ _ => moves_orBadArg fun z _ => moves_orBadArg fun cls hc => ?_
  obtain ⟨rfl, -, hc⟩ := within_eq_some hc
  split
  · exact .refl
  · rename_i side _
    split
    · rename_i ho
      exact .single (.zone s z _ (.inl (ZoneBook.reported_owner _ _ _)) (ZoneBook.reported_fits hc ho))
    · exact .refl

/-! ### Elements -/

theorem readElementEffect_moves (sel : Byte) (val : Word) : MovesBy k (readElementEffect sel val) :=
  fun _ _ _ => moves_orBadArg fun _ _ => moves_orBadArg fun _ _ => .refl

/-- A configuration field stored leaves what the due list reads (R96). -/
theorem storeField_moves {n : Fin 64} {f : Element → Element} {s : State} (hr : s.ctl.op ≠ .retained)
    (h : Element.Change k n (s.onTicket n) (s.elements.get n) ((f (s.elements.get n)).checked n))
    (hp : ∀ horizon, (f (s.elements.get n)).planned horizon = (s.elements.get n).planned horizon)
    (hT : (f (s.elements.get n)).projection = (s.elements.get n).projection) :
    Moves k s (storeField n f s).state := by
  unfold storeField
  split
  · exact .refl
  · exact .single (.element s n _ hr h hp hT)

theorem setElementWith_moves {α : Type} {sel : Byte} {value : Option α} {store : Fin 64 → α → State → Taken}
    (h : ∀ n v, value = some v → MovesBy k (store n v)) : MovesBy k (setElementWith sel value store) :=
  fun s hr hw => moves_orBadArg fun n _ => moves_orBadArg fun v hv => h n v hv s hr hw

/-- SET-ELEMENT of a configuration field of an element, Q among the fields (R61 to R63). -/
theorem storeField_configured {n : Fin 64} {f : Element → Element} {s : State} (hr : s.ctl.op ≠ .retained)
    (h : ∃ zone tach ppr ratio reference expected tolerance slipWeight residue,
      (s.onTicket n = true → zone = (s.elements.get n).zone) ∧
      ((s.elements.get n).residue < (s.elements.get n).ppr → residue < ppr) ∧
      f (s.elements.get n) = { s.elements.get n with
        zone := zone, tach := tach, ppr := ppr, ratio := ratio, reference := reference, expected := expected,
        tolerance := tolerance, slipWeight := slipWeight, residue := residue }) :
            Moves k s (storeField n f s).state := by
  obtain ⟨zone, tach, ppr, ratio, reference, expected, tolerance, slipWeight, residue, hz, hq, hf⟩ := h
  refine storeField_moves hr ?_ ?_ ?_ <;> rw [hf]
  · exact .configured zone tach ppr ratio reference expected tolerance slipWeight residue hz hq
  · exact fun _ => rfl

theorem setElementZoneEffect_moves (sel : Byte) (fv : FieldValue) : MovesBy k (setElementZoneEffect sel fv) := by
  refine setElementWith_moves fun n v _ s hr _ => ?_
  split
  · exact .refl
  · rename_i hb
    exact storeField_configured hr ⟨v, _, _, _, _, _, _, _, _, fun h => absurd h hb, fun h => h, rfl⟩

theorem setElementTachLineEffect_moves (sel : Byte) (fv : FieldValue) :
    MovesBy k (setElementTachLineEffect sel fv) := by
  refine setElementWith_moves fun n v _ s hr _ => storeField_configured hr ?_
  by_cases hv : (s.elements.get n).tach = v
  · exact ⟨_, _, _, _, _, _, _, _, _, fun _ => rfl, fun h => h, if_pos hv⟩
  · exact ⟨_, _, _, _, _, _, _, _, 0, fun _ => rfl, fun h => Nat.zero_lt_of_lt h, if_neg hv⟩

theorem setElementPprEffect_moves (sel : Byte) (fv : FieldValue) : MovesBy k (setElementPprEffect sel fv) := by
  refine setElementWith_moves fun n v hw s hr _ => storeField_configured hr ?_
  obtain ⟨rfl, hlo, -⟩ := within_eq_some hw
  by_cases hv : (s.elements.get n).ppr = fv.toNat
  · exact ⟨_, _, _, _, _, _, _, _, _, fun _ => rfl, fun h => h, if_pos hv⟩
  · exact ⟨_, _, _, _, _, _, _, _, 0, fun _ => rfl, fun _ => hlo, if_neg hv⟩

theorem setElementRatioEffect_moves (sel : Byte) (fv : FieldValue) : MovesBy k (setElementRatioEffect sel fv) := by
  refine setElementWith_moves fun n v _ s hr _ => storeField_configured hr ?_
  by_cases hv : (s.elements.get n).ratio = v
  · exact ⟨_, _, _, _, _, _, _, _, _, fun _ => rfl, fun h => h, if_pos hv⟩
  · exact ⟨_, _, _, _, _, _, _, _, 0, fun _ => rfl, fun h => Nat.zero_lt_of_lt h, if_neg hv⟩

theorem setElementReferenceLineEffect_moves (sel : Byte) (fv : FieldValue) :
    MovesBy k (setElementReferenceLineEffect sel fv) :=
  setElementWith_moves fun _ _ _ _ hr _ =>
    storeField_configured hr ⟨_, _, _, _, _, _, _, _, _, fun _ => rfl, fun h => h, rfl⟩

theorem setElementExpectedRatioEffect_moves (sel : Byte) (fv : FieldValue) :
    MovesBy k (setElementExpectedRatioEffect sel fv) :=
  setElementWith_moves fun _ _ _ _ hr _ =>
    storeField_configured hr ⟨_, _, _, _, _, _, _, _, _, fun _ => rfl, fun h => h, rfl⟩

theorem setElementSlipToleranceEffect_moves (sel : Byte) (fv : FieldValue) :
    MovesBy k (setElementSlipToleranceEffect sel fv) :=
  setElementWith_moves fun _ _ _ _ hr _ =>
    storeField_configured hr ⟨_, _, _, _, _, _, _, _, _, fun _ => rfl, fun h => h, rfl⟩

theorem setElementSlipWeightEffect_moves (sel : Byte) (fv : FieldValue) :
    MovesBy k (setElementSlipWeightEffect sel fv) :=
  setElementWith_moves fun _ _ _ _ hr _ =>
    storeField_configured hr ⟨_, _, _, _, _, _, _, _, _, fun _ => rfl, fun h => h, rfl⟩

/-- An element that is not accounted is not planned, whatever its limit and margin are (R96). -/
theorem planned_of_not_accounted {e : Element} (h : e.accounted = false) (horizon : Nat) :
    e.planned horizon = false := by simp [Element.planned, h]

/-- A record restated is one move. -/
theorem restateElement_moves {n : Fin 64} {e : Element} {s : State} (hr : s.ctl.op ≠ .retained)
    (h : Element.Change k n (s.onTicket n) (s.elements.get n) e) :
    Moves k s (answered (s.restateElement n e) 0).state := by
  change Moves k s (s.restateElement n e)
  exact .single (.restated s n e hr h)

theorem storeLimit_moves {n : Fin 64} {f : Element → Element} {s : State} (hr : s.ctl.op ≠ .retained)
    (h : ∃ limit margin, f (s.elements.get n) = { s.elements.get n with limit := limit, margin := margin }) :
    Moves k s (storeLimit n f s).state := by
  obtain ⟨limit, margin, hf⟩ := h
  unfold storeLimit
  dsimp only
  split
  · exact .refl
  · split
    · rename_i ha
      rw [hf]
      exact restateElement_moves hr (.relimited limit margin ha)
    · rename_i ha
      have ha : (s.elements.get n).accounted = false := by simpa using ha
      rw [hf]
      refine .single (.element s n _ hr (.limited limit margin ha) (fun horizon => ?_) rfl)
      rw [planned_of_not_accounted ha]
      exact planned_of_not_accounted ha horizon

theorem setElementLimitEffect_moves (sel : Byte) (fv : FieldValue) : MovesBy k (setElementLimitEffect sel fv) :=
  setElementWith_moves fun _ _ _ _ hr _ => storeLimit_moves hr ⟨_, _, rfl⟩

theorem setElementMarginEffect_moves (sel : Byte) (fv : FieldValue) : MovesBy k (setElementMarginEffect sel fv) :=
  setElementWith_moves fun _ _ _ _ hr _ => storeLimit_moves hr ⟨_, _, rfl⟩

theorem setElementEffect_moves (sel idx : Byte) (fv : FieldValue) : MovesBy k (setElementEffect sel idx fv) := by
  intro s hr hw
  unfold setElementEffect
  split
  · exact setElementZoneEffect_moves sel fv s hr hw
  · exact setElementTachLineEffect_moves sel fv s hr hw
  · exact setElementPprEffect_moves sel fv s hr hw
  · exact setElementRatioEffect_moves sel fv s hr hw
  · exact setElementReferenceLineEffect_moves sel fv s hr hw
  · exact setElementExpectedRatioEffect_moves sel fv s hr hw
  · exact setElementSlipToleranceEffect_moves sel fv s hr hw
  · exact setElementSlipWeightEffect_moves sel fv s hr hw
  · exact setElementLimitEffect_moves sel fv s hr hw
  · exact setElementMarginEffect_moves sel fv s hr hw
  · exact .refl

theorem enableElementEffect_moves (sel : Byte) : MovesBy k (enableElementEffect sel) := by
  refine fun s hr _ => moves_orBadArg fun n _ => ?_
  split
  · exact .refl
  · rename_i hu
    split
    · exact .refl
    · rename_i hi
      exact restateElement_moves hr (.enabled (by simpa using hu) (by simpa using hi))

theorem disableElementEffect_moves (sel : Byte) : MovesBy k (disableElementEffect sel) := by
  refine fun s hr _ => moves_orBadArg fun n _ => ?_
  split
  · exact .refl
  · rename_i hb
    split
    · exact .refl
    · exact restateElement_moves hr (.disabled (by simpa using hb))

/-- An element that is not in use is not accounted (R71, R183). -/
theorem accounted_of_not_inUse {e : Element} (h : e.inUse = false) : e.accounted = false := by
  simp only [Element.inUse] at h
  simp [Element.accounted, h]

theorem presetWearEffect_moves (hk : k.resetting) (sel : Byte) (val : Word) : MovesBy k (presetWearEffect sel val) := by
  refine fun s hr _ => moves_orBadArg fun n _ => ?_
  split
  · exact .refl
  · rename_i hu
    have hu : (s.elements.get n).inUse = false := by simpa using hu
    have hw : val.toNat ≤ 4294967295 := Nat.le_of_lt_succ val.isLt
    refine .single (.element s n _ hr (.preset hk hu _ hw) (fun horizon => ?_) rfl)
    rw [planned_of_not_accounted (accounted_of_not_inUse hu)]
    exact planned_of_not_accounted (accounted_of_not_inUse hu) horizon

theorem acceptElementEffect_moves (sel : Byte) : MovesBy k (acceptElementEffect sel) := by
  refine fun s hr _ => moves_orBadArg fun n _ => ?_
  split
  · exact .refl
  · rename_i hu
    split
    · exact .refl
    · rename_i hi
      exact restateElement_moves hr (.accepted (by simpa using hu) (by simpa using hi))

/-! ### Plan and tickets -/

theorem readPlanEffect_moves (sel : Byte) (val : Word) : MovesBy k (readPlanEffect sel val) := by
  intro s _ _
  unfold readPlanEffect
  split
  · refine moves_orBadArg fun position _ => ?_
    unfold readPlanMember
    split <;> exact .refl
  all_goals exact .refl

theorem readZoneEffect_moves (sel : Byte) : MovesBy k (readZoneEffect sel) :=
  fun _ _ _ => moves_orBadArg fun _ _ => .refl

theorem openTicketEffect_moves (sel : Byte) : MovesBy k (openTicketEffect sel) := by
  refine fun s hr _ => moves_orBadArg fun e _ => ?_
  split
  · exact .refl
  · rename_i hl
    split
    · exact .refl
    · rename_i hu
      split
      · exact .refl
      · rename_i hb
        exact .single (.tickets s _ hr (.opened e (Nat.lt_of_not_le hl) (by simpa using hu) (by simpa using hb)))

theorem addItemEffect_moves (sel : Byte) (val : Word) : MovesBy k (addItemEffect sel val) := by
  refine fun s hr _ => moves_orBadArg fun e _ => moves_withTicket fun t ht => ?_
  split
  · exact .refl
  · rename_i hp
    split
    · exact .refl
    · rename_i hu
      split
      · exact .refl
      · rename_i hb
        split
        · exact .refl
        · rename_i hz
          split
          · exact .refl
          · rename_i hl
            exact .single (.tickets s _ hr (.itemAdded _ t ht e (not_not.mp hp) (by simpa using hu) (by simpa using hb)
              (not_not.mp hz) (Nat.lt_of_not_le hl)))

theorem startTicketEffect_moves (sel : Byte) : MovesBy k (startTicketEffect sel) := by
  refine fun s hr hw => moves_withTicket fun t ht => ?_
  split
  · exact .refl
  · rename_i ha
    have hs := Relation.ReflTransGen.single (Move.tickets (k := k) s _ hr (.started _ t ht (by simpa using ha) hw))
    simp only [answered, State.startTicket]
    split
    · exact hs.trans moves_bring
    · exact hs

/-- A grant recorded changes the Ticket Unit alone (R115, R116). -/
theorem recordGrant_eq (s : State) (z : Fin 8) (side : Side) :
    s.recordGrant z side = { s with tickets := (s.recordGrant z side).tickets } := by
  unfold State.recordGrant
  dsimp only
  split <;> rfl

/-- A grant withdrawn changes the Ticket Unit alone (R117). -/
theorem withdrawGrant_eq (s : State) (z : Fin 8) (side : Side) :
    s.withdrawGrant z side = { s with tickets := (s.withdrawGrant z side).tickets } := by
  unfold State.withdrawGrant
  dsimp only
  split <;> rfl

theorem grantEffect_moves (p : Port) (sel : Byte) : MovesBy k (grantEffect p sel) := by
  refine fun s hr _ => moves_orBadArg fun z _ => ?_
  split
  · exact .refl
  · rename_i side _
    split
    · exact .refl
    · rename_i ho
      split
      · exact .refl
      · rename_i hf
        split
        · exact .refl
        · simp only [answered]
          rw [recordGrant_eq]
          exact .single (.tickets s _ hr (.granted z side (by simpa using ho) hf))

theorem revokeEffect_moves (p : Port) (sel : Byte) : MovesBy k (revokeEffect p sel) := by
  refine fun s hr _ => moves_orBadArg fun z _ => ?_
  split
  · exact .refl
  · rename_i side _
    split
    · exact .refl
    · rename_i ho
      split
      · exact .refl
      · rename_i hg
        simp only [answered]
        rw [withdrawGrant_eq]
        exact .single (.tickets s _ hr (.withdrawn z side (by simpa using ho) (by simpa using hg)))

theorem checkedItem_moves {sel : Byte} {val : Word} {s : State} {f : Fin 64 → Ticket → Taken}
    (h : ∀ e t, Moves k s (f e t).state) : Moves k s (checkedItem sel val s f).state := by
  refine moves_orBadArg fun e _ => moves_withTicket fun t _ => ?_
  split
  · exact .refl
  · split
    · exact .refl
    · split
      · exact .refl
      · split
        · exact .refl
        · exact h e t

/-- A service record appended leaves the State Controller. -/
@[simp] theorem appendLog_ctl (s : State) (e : Fin 64) (ticket : Nat) (o : LogOutcome) (wear renewals : Nat) :
    (s.appendLog e ticket o wear renewals).ctl = s.ctl := rfl

theorem renewEffect_moves (hk : k.resetting) (sel : Byte) (val : Word) : MovesBy k (renewEffect sel val) := by
  refine fun s hr _ => checkedItem_moves fun n t => ?_
  have hlog := Relation.ReflTransGen.single (Move.logged (k := k) s n t.number .renewed (s.elements.get n).wear
    (saturate Config.countTop ((s.elements.get n).renewCount + 1)))
  have hel := hlog.tail (.restated _ n ((s.elements.get n).renewed n) hr (.renewed hk))
  have hop : (State.restateElement (s.appendLog n t.number .renewed (s.elements.get n).wear
      (saturate Config.countTop ((s.elements.get n).renewCount + 1))) n ((s.elements.get n).renewed n)).ctl.op
        ≠ .retained := by simpa [State.restateElement] using hr
  exact (hel.tail (.tickets _ _ hop (.resolved t.number n .renewed))).tail (.markers _ _)

theorem inspectEffect_moves (sel : Byte) (val : Word) : MovesBy k (inspectEffect sel val) := by
  refine fun s hr _ => checkedItem_moves fun n t => ?_
  exact (Relation.ReflTransGen.single (.logged s n t.number .inspected _ _)).tail
    (.tickets _ _ hr (.resolved t.number n .inspected))

/-- NOT-DONE records appended change the log and the cursors alone (R137). -/
theorem foldl_logNotDone_eq (ticket : Nat) (l : List (Fin 64)) (s : State) :
    l.foldl (State.logNotDone ticket) s = { s with
      log := (l.foldl (State.logNotDone ticket) s).log
      ports := (l.foldl (State.logNotDone ticket) s).ports } := by
  induction l generalizing s with
  | nil => rfl
  | cons e l ih =>
    rw [List.foldl_cons, ih]
    rfl

theorem moves_foldl_logNotDone (ticket : Nat) (l : List (Fin 64)) {s : State} :
    Moves k s (l.foldl (State.logNotDone ticket) s) := by
  induction l generalizing s with
  | nil => exact .refl
  | cons e l ih => exact (Relation.ReflTransGen.single (.logged s e ticket .notDone _ _)).trans ih

theorem closeTicketEffect_moves (sel : Byte) : MovesBy k (closeTicketEffect sel) := by
  refine fun s hr _ => moves_withTicket fun t ht => ?_
  have hlog : Moves k s (t.notDone.foldl (State.logNotDone t.number) s) := moves_foldl_logNotDone _ _
  have ht' : (t.notDone.foldl (State.logNotDone t.number) s).ticket? sel.toNat = some t := by
    rw [foldl_logNotDone_eq]
    exact ht
  have hop : (t.notDone.foldl (State.logNotDone t.number) s).ctl.op ≠ .retained := by
    rw [foldl_logNotDone_eq]
    exact hr
  simp only [answered, State.closeTicket]
  split
  · rename_i ha
    exact moves_lowerDemand (hlog.tail (.tickets _ _ hop (.removed _ t ht' ha)))
  · rename_i ha
    exact hlog.tail (.tickets _ _ hop (.closed _ t ht' (by simpa using ha)))

theorem readTicketEffect_moves (sel : Byte) (val : Word) : MovesBy k (readTicketEffect sel val) := by
  intro s _ _
  unfold readTicketEffect
  split
  · unfold readTicketTable
    split
    · split <;> exact .refl
    · split <;> exact .refl
  · refine moves_orBadArg fun part _ => moves_withTicket fun t _ => ?_
    unfold readTicketPart
    split
    · exact .refl
    · exact .refl
    · split <;> exact .refl

end

end Sys2Proof.Machine

/-! PROOF. Frames, events and steps as chains of moves. -/

namespace Sys2Proof.Machine

/-! ## A frame's command -/

/-- The codes of the commands that may set an element's wear back: PRESET-WEAR, RENEW and CLEAR-ALL. -/
def resettingCodes : List Byte := [Code.presetWear, Code.renew, Code.clearAll]

theorem resettingCodes_of_toNat {code : Byte} (h : code.toNat = 0x24 ∨ code.toNat = 0x33 ∨ code.toNat = 0x7F) :
    code ∈ resettingCodes := by
  obtain h | h | h := h
  · exact (BitVec.eq_of_toNat_eq h : code = 0x24) ▸ by decide
  · exact (BitVec.eq_of_toNat_eq h : code = 0x33) ▸ by decide
  · exact (BitVec.eq_of_toNat_eq h : code = 0x7F) ▸ by decide

section
variable {k : Scope}

theorem commandEffect_moves (p : Port) (code sel : Byte) (val : Word) (levels : Pins)
    (hk : code ∈ resettingCodes → k.resetting) : MovesBy k (commandEffect p code sel val levels) := by
  intro s hr hw
  unfold commandEffect
  split
  · exact nopEffect_moves s hr hw
  · exact readStatusEffect_moves sel s hr hw
  · exact readNoticesEffect_moves p sel s hr hw
  · exact setNoticeMaskEffect_moves p val s hr hw
  · exact pageEffect_moves sel s hr hw
  · exact unfreezeEffect_moves s hr hw
  · exact voteEffect_moves p val s hr hw
  · exact shiftMarkEffect_moves s hr hw
  · exact loadEffect_moves p sel val s hr hw
  · exact grantEffect_moves p sel s hr hw
  · exact revokeEffect_moves p sel s hr hw
  · exact readLinesEffect_moves levels s hr hw
  · exact setLineEffect_moves sel _ _ s hr hw
  · exact readLineSettingEffect_moves sel val s hr hw
  · exact setLineLevelEffect_moves sel val s hr hw
  · exact setTableEffect_moves sel val s hr hw
  · exact readTableEffect_moves sel _ s hr hw
  · exact readElementEffect_moves sel val s hr hw
  · exact setElementEffect_moves sel _ _ s hr hw
  · exact enableElementEffect_moves sel s hr hw
  · exact disableElementEffect_moves sel s hr hw
  · rename_i h
    exact presetWearEffect_moves (hk (resettingCodes_of_toNat (.inl h))) sel val s hr hw
  · exact acceptElementEffect_moves sel s hr hw
  · exact readPlanEffect_moves sel val s hr hw
  · exact readZoneEffect_moves sel s hr hw
  · exact openTicketEffect_moves sel s hr hw
  · exact addItemEffect_moves sel val s hr hw
  · exact startTicketEffect_moves sel s hr hw
  · rename_i h
    exact renewEffect_moves (hk (resettingCodes_of_toNat (.inr (.inl h)))) sel val s hr hw
  · exact inspectEffect_moves sel val s hr hw
  · exact closeTicketEffect_moves sel s hr hw
  · exact readTicketEffect_moves sel val s hr hw
  · exact readHistoryEffect_moves p sel s hr hw
  · exact rewindHistoryEffect_moves p s hr hw
  · exact clearHistoryEffect_moves s hr hw
  · exact readLogEffect_moves p sel s hr hw
  · exact rewindLogEffect_moves p s hr hw
  · exact clearLogEffect_moves s hr hw
  · exact softResetEffect_moves s hr hw
  · rename_i h
    exact clearAllEffect_moves (hk (resettingCodes_of_toNat (.inr (.inr h)))) s hr hw
  · exact .refl

end

/-! ## Frames -/

section
variable {k : Scope} {s : State} {p : Port}

theorem awake_op_ne_retained (h : s.ctl.op ≠ .retained) : s.awake.ctl.op ≠ .retained := by
  unfold State.awake
  split
  · simp
  · exact h

theorem awake_op_ne_parked (s : State) : s.awake.ctl.op ≠ .parked := by
  unfold State.awake
  split
  · simp
  · assumption

/-- The beginning of a frame, by what its port and its device are (R163, R166, R173). -/
theorem beginFrame_cases (s : State) (p : Port) :
    ((s.ports.get p).select = true ∧ s.beginFrame p = s) ∨
    (s.ctl.op = .retained ∧ s.beginFrame p = s.mapPort p fun i => { i with select := true }) ∨
    ((s.ports.get p).select = false ∧ s.ctl.op ≠ .retained ∧ s.beginFrame p = s.awake.mapPort p fun i =>
      { i with select := true, bitCount := 0, shiftOut := s.awake.answerFrame p }) := by
  unfold State.beginFrame
  rw [wakeIfParked_eq_awake]
  cases hs : (s.ports.get p).select with
  | true => exact .inl ⟨rfl, rfl⟩
  | false =>
    by_cases hr : s.ctl.op = .retained
    · exact .inr (.inl ⟨hr, by simp [hr]⟩)
    · exact .inr (.inr ⟨rfl, hr, by simp [hr]⟩)

/-- A frame begun leaves the device out of RETAINED. -/
theorem beginFrame_op_ne_retained (h : s.ctl.op ≠ .retained) : (s.beginFrame p).ctl.op ≠ .retained := by
  obtain ⟨-, e⟩ | ⟨hr, -⟩ | ⟨-, -, e⟩ := beginFrame_cases s p
  · rwa [e]
  · exact absurd hr h
  · rw [e]
    exact awake_op_ne_retained h

/-- A frame begun leaves RETAINED as it is. -/
theorem beginFrame_retained (h : s.ctl.op = .retained) : (s.beginFrame p).ctl.op = .retained := by
  obtain ⟨-, e⟩ | ⟨-, e⟩ | ⟨-, hr, -⟩ := beginFrame_cases s p
  · rwa [e]
  · rwa [e]
  · exact absurd h hr

/-- A frame finds no parked device where ports and operating state agree (R163). -/
theorem beginFrame_op_ne_parked (hc : s.ControlAgrees) (h : s.ctl.op ≠ .retained) :
    (s.beginFrame p).ctl.op ≠ .parked := by
  obtain ⟨-, -, hparked, -⟩ := hc
  obtain ⟨hs, e⟩ | ⟨hr, -⟩ | ⟨-, -, e⟩ := beginFrame_cases s p
  · intro hp
    rw [e] at hp
    have := (hparked hp).2.1 p
    simp [hs] at this
  · exact absurd hr h
  · rw [e]
    exact awake_op_ne_parked s

theorem moves_awake : Moves k s s.awake := wakeIfParked_eq_awake s ▸ moves_wakeIfParked

theorem moves_beginFrame : Moves k s (s.beginFrame p) := by
  obtain ⟨-, e⟩ | ⟨hr, e⟩ | ⟨hs, hr, e⟩ := beginFrame_cases s p
  · rw [e]
  · rw [e]
    refine moves_mapPort (fun _ => rfl) (fun _ => rfl) fun ⟨_, hb, _, hv⟩ => ?_
    exact ⟨fun h => by simp [hv hr] at h, hb, fun h => by simp [hr] at h, hv⟩
  · rw [e]
    refine moves_awake.trans (moves_mapPort (fun _ => rfl) (fun _ => rfl) ?_)
    rintro ⟨hv, -, -, -⟩
    simp only [awake_ports, hs, Bool.false_eq_true, false_and, imp_false, Bool.not_eq_true] at hv
    exact ⟨fun h => by simp [hv] at h, Nat.zero_le _, fun h => absurd h (awake_op_ne_parked s),
      fun h => absurd h (awake_op_ne_retained hr)⟩

theorem moves_endFrame (hv : (s.ports.get p).void = false) (edges : Nat) : Moves k s (s.endFrame p edges) :=
  moves_mapPort (fun _ => rfl) (fun _ => rfl) fun ⟨_, _, _, hr⟩ =>
    ⟨fun h => by simp [hv] at h, min_le_left _ _, fun _ => rfl, hr⟩

theorem moves_discardVoid (edges : Nat) : Moves k s (s.discardVoid p edges) := by
  rw [discardVoid_eq]
  exact moves_mapPort (fun _ => rfl) (fun _ => rfl) fun _ =>
    ⟨fun h => Bool.noConfusion h, min_le_left _ _, fun _ => rfl, fun _ => rfl⟩

theorem moves_stage (code : Byte) (r : Reply) : Moves k s (s.stage p code r) :=
  moves_mapPort (fun _ => rfl) (fun _ => rfl) id

theorem moves_frameError : Moves k s (s.frameError p) :=
  (moves_raiseAt .frame p).trans (moves_mapPort (fun _ => rfl) (fun _ => rfl) id)

/-- In RETAINED a chip select released is all that a port shows (R166). -/
theorem moves_deselect (hr : s.ctl.op = .retained) : Moves k s (s.mapPort p fun i => { i with select := false }) :=
  moves_mapPort (fun _ => rfl) (fun _ => rfl) fun ⟨_, hb, _, hv⟩ =>
    ⟨fun h => by simp [hv hr] at h, hb, fun _ => rfl, hv⟩

theorem moves_takeCommand {code : Byte} {effect : State → Taken} (h : Moves k s (effect s).state) :
    Moves k s (s.takeCommand p code effect) := by
  unfold State.takeCommand
  split
  · exact moves_stage _ _
  · split
    · split
      · exact h.trans (moves_stage _ _)
      · exact h
    · exact moves_stage _ _

/-- The row of a port command, whatever its port is in. -/
theorem moves_frameCommand {code : Byte} {effect : State → Taken} (hw : k.woken → s.ControlAgrees)
    (h : MovesBy k effect) : Moves k s (s.frameCommand p code effect) := by
  unfold State.frameCommand
  split
  · rename_i hr
    exact moves_deselect hr
  · rename_i hr
    split
    · exact moves_beginFrame.trans (moves_discardVoid _)
    · rename_i hv
      have hend : Moves k s ((s.beginFrame p).endFrame p 48) :=
        moves_beginFrame.trans (moves_endFrame (by simpa using hv) 48)
      exact hend.trans (moves_takeCommand (h _ (beginFrame_op_ne_retained hr)
        fun hk => beginFrame_op_ne_parked (hw hk) hr))

/-- Where ports and operating state agree, a port with a frame under way is that of a device that runs (R163). -/
theorem op_ne_parked_of_select (hc : s.ControlAgrees) (hs : (s.ports.get p).select = true) : s.ctl.op ≠ .parked := by
  obtain ⟨-, -, hparked, -⟩ := hc
  intro hp
  have := (hparked hp).2.1 p
  simp [hs] at this

theorem moves_releaseFrame {edges : Nat} {frame : FrameWord} {levels : Pins}
    (hw : k.woken → (s.ports.get p).select = true → s.ctl.op ≠ .retained → s.ctl.op ≠ .parked)
    (hk : codeOf frame ∈ resettingCodes → k.resetting) : Moves k s (s.releaseFrame p edges frame levels) := by
  unfold State.releaseFrame
  split
  · exact .refl
  · rename_i hs
    split
    · rename_i hr
      exact moves_deselect hr
    · rename_i hr
      split
      · exact moves_discardVoid _
      · rename_i hv
        have hend : Moves k s (s.endFrame p edges) := moves_endFrame (by simpa using hv) edges
        split
        · exact hend.trans (moves_takeCommand (commandEffect_moves p _ _ _ levels hk _ hr
            fun hk => hw hk (by simpa using hs) hr))
        · exact hend.trans moves_frameError

end

/-! ## Events -/

section
variable {k : Scope} {s : State}

theorem moves_levelFilterAccept (line : Fin 24) (level : Bool) (hr : s.ctl.op ≠ .retained) :
    Moves k s ((s.acceptLevel line level).takeLevel line (s.lines.get line).filtered level) :=
  (moves_acceptLevel line level).trans (moves_takeLevel (s := s.acceptLevel line level) hr _ _ _)

theorem moves_blinkHalf : Moves k s s.blinkHalf := by
  unfold State.blinkHalf
  split
  · exact .single (.blink s _ (by split <;> omega))
  · exact .refl

theorem moves_epochClose : Moves k s (if s.running then s.closeEpoch else s) := by
  split
  · rename_i hr
    exact moves_closeEpoch (ne_retained_of_running hr)
  · exact .refl

theorem moves_windowEnd : Moves k s (if s.running then s.endWindowIf else s) := by
  split
  · rename_i hr
    exact moves_endWindowIf (ne_retained_of_running hr)
  · exact .refl

theorem moves_motionReport (z : Fin 8) : Moves k s (if s.running then s.takeReportIf z else s) := by
  split
  · rename_i hr
    exact moves_takeReportIf (ne_retained_of_running hr) z
  · exact .refl

/-- What the monitor sees of a loss, in RETAINED (R165). -/
theorem moves_afterLoss (hr : s.ctl.op = .retained) (cause : LossCause) :
    Moves k s { s with ctl := s.ctl.afterLoss cause } := by
  cases cause with
  | vmain => exact .single (.monitor s hr true s.ctl.rstnLow)
  | rstn => exact .single (.lossOfReset s hr)

theorem moves_supplyLoss (cause : LossCause) {t : State} (h : execSupplyLoss cause s = .next t) : Moves k s t := by
  obtain rfl := Host.Outcome.next.inj h
  by_cases hr : s.ctl.op = .retained
  · simp only [hr, if_true]
    exact moves_afterLoss hr cause
  · simp only [hr, if_false]
    have he : Moves k s s.settle.enterRetained := (moves_settle hr).tail (.retained _ (by simpa using hr))
    exact he.trans (moves_afterLoss rfl cause)

theorem fed_op (c : Control) : c.fed.op = c.op := by
  unfold Control.fed
  split <;> rfl

theorem fed_vmainLow (c : Control) : c.fed.vmainLow = c.vmainLow := by
  unfold Control.fed
  split <;> rfl

theorem fed_rstnLow (c : Control) : c.fed.rstnLow = c.rstnLow := by
  unfold Control.fed
  split <;> rfl

theorem moves_retainedExit (hk : k.resetting) (vmain rstn : Bool) {t : State}
    (h : execRetainedExit vmain rstn s = .next t) : Moves k s t := by
  unfold execRetainedExit at h
  by_cases hr : s.ctl.op = .retained
  · rw [if_pos hr] at h
    dsimp only at h
    have hm : Moves k s { s with ctl := { s.ctl with vmainLow := !vmain, rstnLow := !rstn }.fed } :=
      .single (.monitor s hr _ _)
    split at h
    · rename_i hup
      simp only [Bool.and_eq_true] at hup
      obtain ⟨rfl, rfl⟩ := hup
      obtain rfl := Host.Outcome.next.inj h
      have hlow : ({ s.ctl with vmainLow := !true, rstnLow := !true } : Control).fed.vmainLow = false ∧
          ({ s.ctl with vmainLow := !true, rstnLow := !true } : Control).fed.rstnLow = false :=
        ⟨fed_vmainLow _, fed_rstnLow _⟩
      split
      · exact hm.tail (.warm _ .warm fun _ => hlow)
      · exact hm.tail (.cold _ hk fun _ => hlow)
    · obtain rfl := Host.Outcome.next.inj h
      exact hm
  · rw [if_neg hr] at h
    obtain rfl := Host.Outcome.next.inj h
    exact .refl

theorem moves_retainedDisturbance (hk : k.resetting) (n : Fin 64) (d : Disturbance) {t : State}
    (h : execRetainedDisturbance n d s = .next t) : Moves k s t := by
  unfold execRetainedDisturbance at h
  dsimp only at h
  split at h
  · rename_i hc
    obtain ⟨hr, -, hd⟩ := hc
    obtain rfl := Host.Outcome.next.inj h
    exact .single (.disturbed s hk n d hr hd)
  · obtain rfl := Host.Outcome.next.inj h
    exact .refl

/-! ## Time -/

theorem moves_tickScan (hr : s.ctl.op ≠ .retained) : Moves k s s.tickScan := by
  unfold State.tickScan
  split
  · exact .refl
  · split
    · exact moves_scanContacts _
    · exact .single (.timer s _ fun h => absurd h hr)

theorem moves_tickBlink : Moves k s s.tickBlink := by
  unfold State.tickBlink
  split
  · exact .single (.blink s _ (Nat.mod_lt _ (by omega)))
  · exact .refl

theorem moves_tickEpoch : Moves k s s.tickEpoch := by
  unfold State.tickEpoch
  split
  · rename_i hr
    split
    · exact moves_closeEpoch (ne_retained_of_running hr)
    · rename_i hd
      exact .single (.ms s _ (Nat.lt_of_not_le hd) (.inr hr))
  · exact .refl

theorem moves_tickGrants (hk : k.ticking) : Moves k s s.tickGrants := by
  unfold State.tickGrants
  split
  · exact (Relation.ReflTransGen.single (.ticked s hk)).trans (moves_foldl_expireNumber _)
  · exact .refl

/-- The device with no command waiting: moves, and, at the end of a millisecond, a millisecond of the grant timers. -/
theorem idle_cases (k : Scope) (s : State) : Moves k s s.idle ∨ ∃ m, Moves k s m ∧ s.idle = m.tickGrants := by
  unfold State.idle
  split
  · exact .inl .refl
  · rename_i hr
    split
    · exact .inl (moves_settle hr)
    · have hscan : Moves k s ({ s with half := !s.half } : State).tickScan :=
        (Relation.ReflTransGen.single (.half s _)).trans (moves_tickScan (s := { s with half := !s.half }) hr)
      unfold State.tick
      dsimp only
      split
      · exact .inr ⟨_, (hscan.trans moves_tickBlink).trans moves_tickEpoch, rfl⟩
      · exact .inl hscan

end

/-! ## Commands and steps -/

/-- The rows that may set an element's wear back. -/
def Instr.resets : Instr → Prop
  | .presetWear _ _ _ => True
  | .renew _ _ _ => True
  | .clearAll _ => True
  | .retainedExit _ _ => True
  | .retainedDisturbance _ _ => True
  | .frameEnd _ _ frame _ => codeOf frame ∈ resettingCodes
  | .unknownCode _ code => code ∈ resettingCodes
  | _ => False

section
variable {k : Scope} {s t : State}

/-- A row that is a port command, from the effect it has once taken. -/
theorem moves_row {p : Port} {code : Byte} {effect : State → Taken} (hw : k.woken → s.ControlAgrees)
    (he : MovesBy k effect)
    (h : (.next (s.frameCommand p code effect) : Host.Outcome State Fault Refusal) = .next t) : Moves k s t :=
  Host.Outcome.next.inj h ▸ moves_frameCommand hw he

/-- An event whose next state is moves away. -/
theorem moves_event {u : State} (hu : Moves k s u)
    (h : (.next u : Host.Outcome State Fault Refusal) = .next t) : Moves k s t :=
  Host.Outcome.next.inj h ▸ hu

/-- Every command and every event is a chain of moves. -/
theorem exec_moves (c : Instr) (hw : k.woken → s.ControlAgrees) (hk : Instr.resets c → k.resetting)
    (h : exec c s = .next t) : Moves k s t := by
  cases c with
  | nop p => exact moves_row hw nopEffect_moves h
  | readStatus p sel => exact moves_row hw (readStatusEffect_moves sel) h
  | readNotices p sel => exact moves_row hw (readNoticesEffect_moves p sel) h
  | setNoticeMask p val => exact moves_row hw (setNoticeMaskEffect_moves p val) h
  | page p sel => exact moves_row hw (pageEffect_moves sel) h
  | unfreeze p => exact moves_row hw unfreezeEffect_moves h
  | vote p val => exact moves_row hw (voteEffect_moves p val) h
  | shiftMark p => exact moves_row hw shiftMarkEffect_moves h
  | load p sel val => exact moves_row hw (loadEffect_moves p sel val) h
  | grant p sel => exact moves_row hw (grantEffect_moves p sel) h
  | revoke p sel => exact moves_row hw (revokeEffect_moves p sel) h
  | readLines p levels => exact moves_row hw (readLinesEffect_moves levels) h
  | setLineFunction p sel fv => exact moves_row hw (setLineFunctionEffect_moves sel fv) h
  | setLineDirection p sel fv => exact moves_row hw (setLineDirectionEffect_moves sel fv) h
  | setLineLevelField p sel fv => exact moves_row hw (setLineLevelFieldEffect_moves sel fv) h
  | setLinePullUp p sel fv => exact moves_row hw (setLinePullUpEffect_moves sel fv) h
  | setLineFloat p sel fv => exact moves_row hw (setLineFloatEffect_moves sel fv) h
  | setLineSensingMode p sel fv => exact moves_row hw (setLineSensingModeEffect_moves sel fv) h
  | setLinePolarity p sel fv => exact moves_row hw (setLinePolarityEffect_moves sel fv) h
  | setLineWakeEnable p sel fv => exact moves_row hw (setLineWakeEnableEffect_moves sel fv) h
  | setLineZone p sel fv => exact moves_row hw (setLineZoneEffect_moves sel fv) h
  | setLineOwnerSide p sel fv => exact moves_row hw (setLineOwnerSideEffect_moves sel fv) h
  | readLineSetting p sel val => exact moves_row hw (readLineSettingEffect_moves sel val) h
  | setLineLevel p sel val => exact moves_row hw (setLineLevelEffect_moves sel val) h
  | setEpochDivider p val => exact moves_row hw (setEpochDividerEffect_moves val) h
  | setWindowLength p val => exact moves_row hw (setWindowLengthEffect_moves val) h
  | setHistoryMode p val => exact moves_row hw (setHistoryModeEffect_moves val) h
  | setZoneOwner p idx fv => exact moves_row hw (setZoneOwnerEffect_moves idx fv) h
  | setFallbackClass p idx fv => exact moves_row hw (setFallbackClassEffect_moves idx fv) h
  | setHoldTime p idx fv => exact moves_row hw (setHoldTimeEffect_moves idx fv) h
  | setLoadWeight p idx fv => exact moves_row hw (setLoadWeightEffect_moves idx fv) h
  | setSpeedBandBound p idx fv => exact moves_row hw (setSpeedBandBoundEffect_moves idx fv) h
  | setSpeedBandFactor p idx fv => exact moves_row hw (setSpeedBandFactorEffect_moves idx fv) h
  | setSmoothingShift p val => exact moves_row hw (setSmoothingShiftEffect_moves val) h
  | setHorizon p val => exact moves_row hw (setHorizonEffect_moves val) h
  | setGrantTime p val => exact moves_row hw (setGrantTimeEffect_moves val) h
  | setFittedFlag p side val => exact moves_row hw (setFittedFlagEffect_moves side val) h
  | setQuietScanIndex p val => exact moves_row hw (setQuietScanIndexEffect_moves val) h
  | setParkScanIndex p val => exact moves_row hw (setParkScanIndexEffect_moves val) h
  | readTable p item idx => exact moves_row hw (readTableEffect_moves item idx) h
  | readElement p sel val => exact moves_row hw (readElementEffect_moves sel val) h
  | setElementZone p sel fv => exact moves_row hw (setElementZoneEffect_moves sel fv) h
  | setElementTachLine p sel fv => exact moves_row hw (setElementTachLineEffect_moves sel fv) h
  | setElementPpr p sel fv => exact moves_row hw (setElementPprEffect_moves sel fv) h
  | setElementRatio p sel fv => exact moves_row hw (setElementRatioEffect_moves sel fv) h
  | setElementReferenceLine p sel fv => exact moves_row hw (setElementReferenceLineEffect_moves sel fv) h
  | setElementExpectedRatio p sel fv => exact moves_row hw (setElementExpectedRatioEffect_moves sel fv) h
  | setElementSlipTolerance p sel fv => exact moves_row hw (setElementSlipToleranceEffect_moves sel fv) h
  | setElementSlipWeight p sel fv => exact moves_row hw (setElementSlipWeightEffect_moves sel fv) h
  | setElementLimit p sel fv => exact moves_row hw (setElementLimitEffect_moves sel fv) h
  | setElementMargin p sel fv => exact moves_row hw (setElementMarginEffect_moves sel fv) h
  | enableElement p sel => exact moves_row hw (enableElementEffect_moves sel) h
  | disableElement p sel => exact moves_row hw (disableElementEffect_moves sel) h
  | presetWear p sel val => exact moves_row hw (presetWearEffect_moves (hk trivial) sel val) h
  | acceptElement p sel => exact moves_row hw (acceptElementEffect_moves sel) h
  | readPlan p sel val => exact moves_row hw (readPlanEffect_moves sel val) h
  | readZone p sel => exact moves_row hw (readZoneEffect_moves sel) h
  | openTicket p sel => exact moves_row hw (openTicketEffect_moves sel) h
  | addItem p sel val => exact moves_row hw (addItemEffect_moves sel val) h
  | startTicket p sel => exact moves_row hw (startTicketEffect_moves sel) h
  | renew p sel val => exact moves_row hw (renewEffect_moves (hk trivial) sel val) h
  | inspect p sel val => exact moves_row hw (inspectEffect_moves sel val) h
  | closeTicket p sel => exact moves_row hw (closeTicketEffect_moves sel) h
  | readTicket p sel val => exact moves_row hw (readTicketEffect_moves sel val) h
  | readHistory p sel => exact moves_row hw (readHistoryEffect_moves p sel) h
  | rewindHistory p => exact moves_row hw (rewindHistoryEffect_moves p) h
  | clearHistory p => exact moves_row hw clearHistoryEffect_moves h
  | readLog p sel => exact moves_row hw (readLogEffect_moves p sel) h
  | rewindLog p => exact moves_row hw (rewindLogEffect_moves p) h
  | clearLog p => exact moves_row hw clearLogEffect_moves h
  | softReset p => exact moves_row hw softResetEffect_moves h
  | clearAll p => exact moves_row hw (clearAllEffect_moves (hk trivial)) h
  | frameBegin p => exact moves_event moves_beginFrame h
  | frameEnd p edges frame levels =>
    exact moves_event (moves_releaseFrame (fun hk hs _ => op_ne_parked_of_select (hw hk) hs) hk) h
  | unknownCode p code => exact moves_row hw (commandEffect_moves p code _ _ _ hk) h
  | badFrame p edges =>
    have hcode : codeOf 0 ∉ resettingCodes := by decide
    refine moves_event (moves_beginFrame.trans (moves_releaseFrame (fun hk _ hr => ?_) fun h => absurd h hcode)) h
    exact beginFrame_op_ne_parked (hw hk) fun e => hr (beginFrame_retained e)
  | voidFrameDiscard p edges =>
    refine moves_event ?_ h
    split
    · exact moves_discardVoid _
    · exact .refl
  | levelFilterAccept line level =>
    simp only [exec, execLevelFilterAccept] at h
    split at h
    · exact moves_event .refl h
    · rename_i hn
      exact moves_event (moves_levelFilterAccept line level fun e => hn (.inl e)) h
  | contactScan levels => exact moves_event (moves_scanContacts levels) h
  | blinkHalfCycle => exact moves_event moves_blinkHalf h
  | epochClose => exact moves_event moves_epochClose h
  | motionReport zone => exact moves_event (moves_motionReport zone) h
  | windowEnd => exact moves_event moves_windowEnd h
  | grantTimerExpiry ticket => exact moves_event (moves_expireNumber ticket.toNat) h
  | supplyLoss cause => exact moves_supplyLoss cause h
  | keepSupplyLoss below => exact moves_event (.single (.keep s below)) h
  | retainedExit vmain rstn => exact moves_retainedExit (hk trivial) vmain rstn h
  | retainedDisturbance n d => exact moves_retainedDisturbance (hk trivial) n d h

/-- A step is a chain of moves from the device with the command taken off its queue, and, with none waiting, at the
end of a millisecond, a millisecond of the grant timers after them. -/
theorem step_cases (hw : k.woken → s.ControlAgrees) (hk : k.resetting) (h : step s = .next t) :
    ∃ u, u = { s with pending := u.pending } ∧ (Moves k u t ∨ ∃ m, Moves k u m ∧ t = m.tickGrants) := by
  unfold step at h
  split at h
  · refine ⟨s, rfl, ?_⟩
    obtain rfl := Host.Outcome.next.inj h
    exact idle_cases k s
  · rename_i c rest _
    exact ⟨{ s with pending := rest }, rfl, .inl (exec_moves c hw (fun _ => hk) h)⟩

/-- Whatever does not read the queue and is kept by every move is kept by every step. -/
theorem keep_step {P : State → Prop} (hw : k.woken → s.ControlAgrees) (ht : k.ticking) (hk : k.resetting)
    (hq : ∀ s q, P s → P { s with pending := q }) (hm : ∀ {s t}, Move k s t → P s → P t) (hs : P s)
    (h : step s = .next t) : P t := by
  obtain ⟨u, hu, hut⟩ := step_cases hw hk h
  have hPu : P u := hu ▸ hq s _ hs
  obtain hut | ⟨m, hum, rfl⟩ := hut
  · exact Moves.keep hm hut hPu
  · exact Moves.keep hm (hum.trans (moves_tickGrants ht)) hPu

/-- The scope in which every step is a chain of moves, without a premise. -/
def Scope.all : Scope := ⟨False, True, True⟩

end

end Sys2Proof.Machine

/-! PROOF. The due list stands in order after every step (R96 to R98). -/

namespace Sys2Proof.Machine

section
variable {k : Scope} {s t : State}

/-! ## The due list by operation -/

/-- A bringing of the due list re-forms the plan from the records and the horizon (R98). -/
@[simp] theorem bringDue_plan (s : State) :
    s.bringDue.plan = s.plan.reformed s.plan.due (dueListOf s.elements s.plan.horizon) := by simp [State.bringDue]

@[simp] theorem reformed_due (p : Plan) (before after : List (Fin 64)) : (p.reformed before after).due = after := rfl

@[simp] theorem reformed_horizon (p : Plan) (before after : List (Fin 64)) :
    (p.reformed before after).horizon = p.horizon := rfl

/-- The generation number has 16 bits (R98). -/
theorem reformed_generation_le {p : Plan} (before after : List (Fin 64)) (h : p.generation ≤ 65535) :
    (p.reformed before after).generation ≤ 65535 := by
  unfold Plan.reformed
  dsimp only
  split
  · exact h
  · omega

/-- A plan re-formed for the records as they stand is in order. -/
theorem dueInOrder_of_reformed (before : List (Fin 64)) (p : Plan) (hg : p.generation ≤ 65535)
    (h : t.plan = p.reformed before (dueListOf t.elements p.horizon)) : t.DueInOrder := by
  refine ⟨fun _ => ?_, ?_⟩
  · rw [h]
    rfl
  · rw [h]
    exact reformed_generation_le _ _ hg

/-- The due list reads of a record whether it is planned and its projection, and nothing else (R96, R97). -/
theorem dueListOf_congr {a b : Table Element 64} {horizon : Nat}
    (hp : ∀ i, (a.get i).planned horizon = (b.get i).planned horizon)
    (hT : ∀ i, (a.get i).projection = (b.get i).projection) : dueListOf a horizon = dueListOf b horizon := by
  have hbefore : dueBefore a = dueBefore b := by
    funext i j
    simp only [dueBefore, hT]
  unfold dueListOf
  simp only [hp]
  congr

/-- After a COLD start no element is planned (R85). -/
theorem dueListOf_cold (horizon : Nat) : dueListOf (.ofFn Element.cold) horizon = [] := by
  refine List.eq_nil_iff_forall_not_mem.mpr fun n hn => ?_
  rw [mem_dueListOf, Table.get_ofFn] at hn
  exact Bool.noConfusion hn

/-! ## Every move -/

/-- What the supply monitor sees leaves the operating state. -/
theorem dueInOrder_ctl {c : Control} (h : s.DueInOrder) (hc : c.op = s.ctl.op) :
    State.DueInOrder { s with ctl := c } := by
  obtain ⟨hd, hg⟩ := h
  exact ⟨fun hr => hd (hc ▸ hr), hg⟩

theorem Move.dueInOrder (m : Move k s t) (h : s.DueInOrder) : t.DueInOrder := by
  obtain ⟨hd, hg⟩ := h
  cases m with
  | horizon v hv => exact dueInOrder_of_reformed s.plan.due { s.plan with horizon := v } hg (by simp)
  | element n e hr _ hp hT =>
    refine ⟨fun hr => (hd hr).trans (dueListOf_congr (fun i => ?_) fun i => ?_), hg⟩ <;>
      rw [State.setElement_elements, Table.get_set] <;> split
    · rename_i hi
      rw [hi, hp]
    · rfl
    · rename_i hi
      rw [hi, hT]
    · rfl
  | restated n e hr _ =>
    exact dueInOrder_of_reformed s.plan.due s.plan hg (by simp [State.restateElement])
  | closed hr =>
    refine dueInOrder_of_reformed s.plan.due s.plan hg ?_
    simp [State.countClose, State.restartCounters, State.countDownLoads]
  | windowEnded hr =>
    refine dueInOrder_of_reformed s.plan.due s.plan hg ?_
    simp [State.endWindow, State.appendHistory, State.passElements]
  | brought op hr _ => exact ⟨fun _ => hd hr, hg⟩
  | parked hr _ _ _ _ => exact ⟨fun _ => hd hr, hg⟩
  | keep below => exact dueInOrder_ctl ⟨hd, hg⟩ (fed_op _)
  | monitor hr main rstn => exact dueInOrder_ctl ⟨hd, hg⟩ (fed_op _)
  | retained hr => exact ⟨fun hr => absurd rfl hr, hg⟩
  | warm kind _ =>
    exact dueInOrder_of_reformed (dueListOf s.elements s.plan.horizon) s.plan hg rfl
  | cold _ _ => exact ⟨fun _ => (dueListOf_cold 168).symm, Nat.zero_le _⟩
  | disturbed _ n d hr _ => exact ⟨fun h => absurd hr h, hg⟩
  | _ => exact ⟨hd, hg⟩

end

/-- Settles O8: every move that changes what the due list reads re-forms it, but for what RETAINED lets happen. -/
theorem stepKeepsDueInOrder : Obligations.StepKeepsDueInOrder := fun _ _ hs h =>
  keep_step (k := .all) False.elim trivial trivial (fun _ _ h => h) Move.dueInOrder hs h

end Sys2Proof.Machine

/-! PROOF. The element records over every step: their bounds (R56, R89), their states (R57) and their check words (R83,
R84), from what a move can make of one record; and the ranges of counters and settings (R8, R11, R51, R74, R86). -/

namespace Sys2Proof.Machine

/-! ## One record -/

section
variable {k : Scope} {i : Fin 64} {busy : Bool} {e e' : Element}

/-- A smoothed rate stays within the range of its two ends (R89). -/
theorem smoothedRate_le {rate delta k b : Nat} (hr : rate ≤ 16 * b) (hd : delta ≤ b) :
    smoothedRate rate delta k ≤ 16 * b := by
  unfold smoothedRate
  split
  · have := Nat.div_le_self (16 * delta - rate) (2 ^ k)
    omega
  · exact (Nat.sub_le _ _).trans hr

theorem projectionOf_le {wear limit rate : Nat} : projectionOf wear limit rate ≤ 65535 := projectionOf_le_top

/-- A record in range has a PPR of at least 1 (R61, R66). -/
theorem ppr_pos_of_inRange (h : e.inRange = true) : 1 ≤ e.ppr := by
  simp only [Element.inRange, Bool.and_eq_true, decide_eq_true_eq] at h
  exact h.1.1.1.1.1.1.1.2.1

/-- A move keeps the bounds of a record (R56, R89). -/
theorem Element.Change.bounded (c : Element.Change k i busy e e') (h : e.Bounded) : e'.Bounded := by
  obtain ⟨hw, ha, hc, hq, hn, hs, hr, hT⟩ := h
  cases c with
  | same => exact ⟨hw, ha, hc, hq, hn, hs, hr, hT⟩
  | configured _ _ _ _ _ _ _ _ _ _ hq' => exact ⟨hw, ha, hc, hq' hq, hn, hs, hr, hT⟩
  | limited => exact ⟨hw, ha, hc, hq, hn, hs, hr, hT⟩
  | relimited => exact ⟨hw, ha, hc, hq, hn, hs, hr, projectionOf_le⟩
  | enabled _ hi =>
    exact ⟨hw, Nat.zero_le _, Nat.zero_le _, ppr_pos_of_inRange hi, hn, Nat.zero_le _, Nat.zero_le _, projectionOf_le⟩
  | accepted _ hi =>
    refine ⟨hw, ha, hc, ?_, hn, hs, hr, projectionOf_le⟩
    change (if e.residue < e.ppr then e.residue else 0) < e.ppr
    rwa [if_pos hq]
  | disabled => exact ⟨hw, ha, hc, hq, hn, hs, hr, hT⟩
  | preset _ _ wear hw' => exact ⟨hw', ha, hc, hq, hn, hs, hr, hT⟩
  | renewed =>
    exact ⟨Nat.zero_le _, Nat.zero_le _, Nat.zero_le _, Nat.zero_lt_of_lt hq, min_le_left _ _, hs, hr,
      projectionOf_le⟩
  | accrued bands weight own reference =>
    refine ⟨min_le_left _ _, min_le_left _ _, Nat.le_of_lt_succ (Nat.mod_lt _ (by decide)),
      Nat.mod_lt _ (Nat.zero_lt_of_lt hq), hn, ?slips, hr, ?projection⟩
    case slips =>
      change (if e.slips own reference = true then saturate Config.countTop (e.slipCount + 1) else e.slipCount) ≤ 65535
      split
      · exact min_le_left _ _
      · exact hs
    case projection =>
      simp only [Element.accrue, Element.checked]
      split
      · exact hT
      · exact projectionOf_le
  | passed shift =>
    unfold Element.passed
    split
    · refine ⟨hw, Nat.zero_le _, hc, hq, hn, hs, ?_, projectionOf_le⟩
      simp only [Element.projected]
      split
      · exact smoothedRate_le (b := 16777215) hr ha
      · omega
    · exact ⟨hw, ha, hc, hq, hn, hs, hr, hT⟩

/-- A record whose state was derived and which has projection 0 if DUE agrees with R57. -/
theorem Element.derived_of_state (hs : e.state = derivedState e.wear e.limit e.margin)
    (hp : e.state = .due → e.projection = 0) : e.Derived := by
  intro _ _
  refine ⟨?_, hp, fun hw => ?_⟩
  · rw [hs]
    exact derivedState_eq_due_iff
  · rw [hs] at hw
    exact (derivedState_eq_worn_iff.mp hw).2

/-- A record with its state derived and its projection recomputed agrees with R57. -/
theorem Element.rederived_derived (e : Element) (n : Fin 64) : (e.rederived.checked n).Derived :=
  derived_of_state rfl fun h => projectionOf_of_limit_le (derivedState_eq_due_iff.mp h)

/-- An element that is not accounted agrees with R57, which speaks of the others. -/
theorem Element.derived_of_not_accounted (h : e.accounted = false) : e.Derived :=
  fun ha => absurd ha (by simp [h])

/-- A move keeps a record's state as R57 gives it. -/
theorem Element.Change.derived (c : Element.Change k i busy e e') (h : e.Derived) : e'.Derived := by
  cases c with
  | same => exact h
  | configured => exact h
  | limited _ _ ha => exact derived_of_not_accounted ha
  | relimited => exact rederived_derived _ _
  | enabled => exact rederived_derived _ _
  | accepted => exact rederived_derived _ _
  | disabled => exact derived_of_not_accounted rfl
  | preset _ hu => exact derived_of_not_accounted (accounted_of_not_inUse hu)
  | renewed =>
    intro _ hl
    have hl : 1 ≤ e.limit := hl
    have hnot : ¬e.limit * 4096 ≤ 0 := by omega
    exact ⟨⟨fun h => ElementState.noConfusion h, fun h => absurd h hnot⟩, fun h => ElementState.noConfusion h,
      fun h => ElementState.noConfusion h⟩
  | accrued bands weight own reference ha =>
    intro ha' hl
    refine derived_of_state rfl (fun hdue => ?_) ha' hl
    have hlimit := derivedState_eq_due_iff.mp hdue
    simp only [accrue, checked] at hdue ⊢
    split
    · rename_i hsame
      exact (h ha hl).2.1 (hsame ▸ hdue)
    · exact projectionOf_of_limit_le hlimit
  | passed shift =>
    unfold Element.passed
    split
    · rename_i ha
      intro _ hl
      obtain ⟨hdue, -, hworn⟩ := h ha hl
      exact ⟨hdue, fun hd => projectionOf_of_limit_le (hdue.mp hd), hworn⟩
    · exact h

/-- The pass of a window end leaves what the check word sums (R83). -/
theorem Element.passed_sum (e : Element) (shift : Nat) (n : Fin 64) : (e.passed shift).sum n = e.sum n := by
  unfold passed
  split <;> rfl

/-- The pass of a window end leaves the check word and the state (R83, R87). -/
theorem Element.passed_kept (e : Element) (shift : Nat) :
    (e.passed shift).check = e.check ∧ (e.passed shift).state = e.state ∧ (e.passed shift).wear = e.wear ∧
      (e.passed shift).zone = e.zone := by
  unfold passed
  split <;> exact ⟨rfl, rfl, rfl, rfl⟩

/-- A move keeps the check word of an element in use and not SUSPECT in agreement with its record (R83). -/
theorem Element.Change.check_eq_sum (c : Element.Change k i busy e e')
    (h : e.accounted = true → e.check = e.sum i) (ha : e'.accounted = true) : e'.check = e'.sum i := by
  cases c with
  | same => exact h ha
  | disabled => cases ha
  | passed shift =>
    obtain ⟨hc, hs, -⟩ := e.passed_kept shift
    rw [hc, passed_sum]
    refine h ?_
    rwa [accounted, hs] at ha
  | _ => rfl

end

/-! ## The element table over a move -/

section
variable {k : Scope} {s t : State}

/-- The record of an element after the accrual of a close (R71). -/
theorem accrueAll_element (s : State) (i : Fin 64) :
    s.accrueAll.elements.get i = ((s.accrual i).map Accrued.element).getD (s.elements.get i) := by
  simp only [State.accrueAll, State.raiseIf_elements, Table.get_mapIdx, Table.get_ofFn]
  cases s.accrual i <;> rfl

/-- The accrual of a close changes a record as one accrual, or not at all (R71). -/
theorem accrueAll_change (k : Scope) (s : State) (i : Fin 64) (busy : Bool) :
    Element.Change k i busy (s.elements.get i) (s.accrueAll.elements.get i) := by
  rw [accrueAll_element]
  unfold State.accrual
  dsimp only
  by_cases ha : (s.elements.get i).accounted = true
  · rw [if_pos ha]
    exact .accrued _ _ _ _ ha
  · rw [if_neg ha]
    exact .same

/-- What a move can make of the element table. -/
theorem Move.elements_cases (m : Move k s t) :
    ((∀ i, Element.Change k i (s.onTicket i) (s.elements.get i) (t.elements.get i)) ∧
      (s.ctl.op = .retained → t.ctl.op = .retained ∧ t.elements = s.elements)) ∨
    (∀ i, t.elements.get i = (s.elements.get i).examined i) ∨
    (k.resetting ∧ ∀ i, t.elements.get i = .cold i) ∨
    (k.resetting ∧ s.ctl.op = .retained ∧ t.ctl.op = .retained ∧ ∃ n d,
      ¬(((s.elements.get n).disturbed d).inUse = true ∧
        ((s.elements.get n).disturbed d).sum n = ((s.elements.get n).disturbed d).check) ∧
      t.elements = s.elements.set n ((s.elements.get n).disturbed d)) := by
  have hset : ∀ n e, Element.Change k n (s.onTicket n) (s.elements.get n) e →
      ∀ i, Element.Change k i (s.onTicket i) (s.elements.get i) ((s.elements.set n e).get i) := by
    intro n e h i
    rw [Table.get_set]
    split
    · rename_i hi
      exact hi ▸ h
    · exact .same
  cases m with
  | horizon v hv => exact .inl ⟨fun i => by simpa using .same, fun h => by simpa using h⟩
  | element n e hr h _ _ => exact .inl ⟨hset n e h, fun h => absurd h hr⟩
  | restated n e hr h =>
    exact .inl ⟨fun i => by simpa [State.restateElement] using hset n e h i, fun h => absurd h hr⟩
  | closed hr =>
    refine .inl ⟨fun i => ?_, fun h => absurd h hr⟩
    simpa [State.countClose, State.restartCounters, State.countDownLoads] using accrueAll_change k s i _
  | windowEnded hr =>
    refine .inl ⟨fun i => ?_, fun h => absurd h hr⟩
    simpa [State.endWindow, State.appendHistory, State.passElements] using .passed s.plan.shift
  | brought op hr _ => exact .inl ⟨fun _ => .same, fun h => absurd h hr⟩
  | parked hr _ _ _ _ => exact .inl ⟨fun _ => .same, fun h => absurd h hr⟩
  | keep below => exact .inl ⟨fun _ => .same, fun h => ⟨(fed_op _).trans h, rfl⟩⟩
  | monitor hr main rstn => exact .inl ⟨fun _ => .same, fun h => ⟨(fed_op _).trans h, rfl⟩⟩
  | retained hr => exact .inl ⟨fun _ => .same, fun h => ⟨rfl, rfl⟩⟩
  | warm kind _ =>
    refine .inr (.inl fun i => ?_)
    exact Table.get_mapIdx _ _ i
  | cold hk _ => exact .inr (.inr (.inl ⟨hk, fun i => Table.get_ofFn _ i⟩))
  | disturbed hk n d hr h => exact .inr (.inr (.inr ⟨hk, hr, hr, n, d, h, rfl⟩))
  | _ => exact .inl ⟨fun _ => .same, fun h => ⟨h, rfl⟩⟩

/-- The check of a start changes a record's state alone (R84). -/
theorem Element.examined_eq (e : Element) (n : Fin 64) :
    e.examined n = e ∨ (e.examined n = { e with state := .suspect } ∧ e.inUse = true ∧ e.sum n ≠ e.check) := by
  unfold examined
  split
  · rename_i h
    simp only [Bool.and_eq_true, bne_iff_ne] at h
    exact .inr ⟨rfl, h⟩
  · exact .inl rfl

theorem Element.cold_bounded (n : Fin 64) : (Element.cold n).Bounded := by
  refine ⟨?_, ?_, ?_, ?_, ?_, ?_, ?_, ?_⟩ <;> decide +revert

/-! ## The bounds -/

theorem Move.elementsBounded (m : Move k s t) (h : s.ElementsBounded) : t.ElementsBounded := by
  intro i
  obtain ⟨hc, -⟩ | he | ⟨-, hc⟩ | ⟨-, -, -, n, d, -, hd⟩ := m.elements_cases
  · exact (hc i).bounded (h i)
  · rw [he i]
    obtain e | ⟨e, -⟩ := Element.examined_eq (s.elements.get i) i <;> rw [e] <;> exact h i
  · rw [hc i]
    exact Element.cold_bounded i
  · rw [hd, Table.get_set]
    split
    · rename_i hi
      obtain ⟨-, ha, hc, hq, hn, hs, hr, hT⟩ := h n
      exact ⟨Nat.le_of_lt_succ d.wear.isLt, ha, hc, hq, hn, hs, hr, hT⟩
    · exact h i

theorem reset_settingsInRange : State.reset.SettingsInRange := by
  refine ⟨fun i => ?_, ?_, ?_, ?_, ?_, ?_, ?_⟩
  · exact (Table.get_ofFn (fun _ => Line.cold) i).symm ▸ ⟨Nat.zero_le _, fun _ => rfl⟩
  all_goals decide

theorem Move.settingsInRange (m : Move k s t) (h : s.SettingsInRange) : t.SettingsInRange := by
  obtain ⟨hl, hw, hb, hq, hp, hk, hh⟩ := h
  cases m with
  | lines ls h => exact ⟨fun i => h i (hl i), hw, hb, hq, hp, hk, hh⟩
  | quietIndex v hv => exact ⟨hl, hw, hb, hv, hp, hk, hh⟩
  | parkIndex v hv => exact ⟨hl, hw, hb, hq, hv, hk, hh⟩
  | weight i v hv =>
    refine ⟨hl, fun j => ?_, hb, hq, hp, hk, hh⟩
    change (s.book.weights.set i v).get j ≤ 255
    rw [Table.get_set]
    split
    · exact hv
    · exact hw j
  | band i b hv =>
    refine ⟨hl, hw, fun j => ?_, hq, hp, hk, hh⟩
    change ((s.bands.set i b).get j).bound ≤ 65535 ∧ ((s.bands.set i b).get j).factor ≤ 255
    rw [Table.get_set]
    split
    · exact hv (hb i)
    · exact hb j
  | shift v hv => exact ⟨hl, hw, hb, hq, hp, hv, hh⟩
  | horizon v hv => simpa [State.SettingsInRange, Plan.reformed] using ⟨hl, hw, hb, hq, hp, hk, hv⟩
  | restated n e hr _ =>
    simpa [State.SettingsInRange, State.restateElement, Plan.reformed] using ⟨hl, hw, hb, hq, hp, hk, hh⟩
  | closed hr =>
    have hlines : ∀ l : Line, ({ l with count := 0 } : Line).Counted := fun _ => ⟨Nat.zero_le _, fun _ => rfl⟩
    simpa [State.SettingsInRange, State.countClose, State.restartCounters, State.countDownLoads,
      Plan.reformed] using ⟨fun _ => hlines _, hw, hb, hq, hp, hk, hh⟩
  | windowEnded hr =>
    simpa [State.SettingsInRange, State.endWindow, State.appendHistory, State.passElements, Plan.reformed] using
      ⟨hl, hw, hb, hq, hp, hk, hh⟩
  | retained hr =>
    refine ⟨fun i => ?_, hw, hb, hq, hp, hk, hh⟩
    exact (Table.get_mapIdx s.lines _ i).symm ▸ ⟨Nat.zero_le _, fun _ => rfl⟩
  | warm kind _ =>
    refine ⟨fun i => ?_, hw, hb, hq, hp, hk, hh⟩
    exact (Table.get_mapIdx s.lines _ i).symm ▸ ⟨Nat.zero_le _, fun _ => rfl⟩
  | cold _ _ => exact reset_settingsInRange
  | _ => exact ⟨hl, hw, hb, hq, hp, hk, hh⟩

/-! ## States and check words -/

/-- A disturbance that the check word betrays leaves an element IDLE, or one whose sum differs (R84). -/
theorem Move.statesDerived (m : Move k s t) (h : s.StatesDerived) : t.StatesDerived := by
  intro i
  obtain ⟨hc, hret⟩ | he | ⟨-, hc⟩ | ⟨-, hr, hr', n, d, hn, hd⟩ := m.elements_cases
  · obtain hi | ⟨hr, hi⟩ := h i
    · exact .inl ((hc i).derived hi)
    · obtain ⟨hr', he⟩ := hret hr
      exact .inr ⟨hr', by rwa [he]⟩
  · left
    rw [he i]
    obtain e | ⟨e, -⟩ := Element.examined_eq (s.elements.get i) i
    · rw [e]
      obtain hi | ⟨-, hu, hs⟩ := h i
      · exact hi
      · rw [Element.examined, hu, bne_iff_ne.mpr hs] at e
        exact Element.derived_of_not_accounted (by rw [← e]; rfl)
    · rw [e]
      exact Element.derived_of_not_accounted rfl
  · left
    rw [hc i]
    exact Element.derived_of_not_accounted rfl
  · rw [hd, Table.get_set]
    split
    · rename_i hi
      subst hi
      cases hu : ((s.elements.get i).disturbed d).inUse with
      | false => exact .inl (Element.derived_of_not_accounted (accounted_of_not_inUse hu))
      | true => exact .inr ⟨hr', rfl, fun h => hn ⟨hu, h⟩⟩
    · obtain hi | ⟨-, hi⟩ := h i
      · exact .inl hi
      · exact .inr ⟨hr', hi⟩

theorem Move.checksAgree (m : Move k s t) (h : s.ChecksAgree) : t.ChecksAgree := by
  intro hr' i
  obtain ⟨hc, hret⟩ | he | ⟨-, hc⟩ | ⟨-, -, hr, -⟩ := m.elements_cases
  · exact (hc i).check_eq_sum (h (fun hr => hr' (hret hr).1) i)
  · rw [he i]
    intro ha
    obtain e | ⟨e, -⟩ := Element.examined_eq (s.elements.get i) i
    · rw [e] at ha ⊢
      by_contra hne
      have hu : (s.elements.get i).inUse = true := by
        simp only [Element.accounted, Bool.and_eq_true] at ha
        exact ha.1
      rw [Element.examined, hu, bne_iff_ne.mpr (Ne.symm hne)] at e
      have : (s.elements.get i).state = .suspect := by rw [← e]; rfl
      simp [Element.accounted, this] at ha
    · rw [e] at ha
      cases ha
  · rw [hc i]
    intro ha
    cases ha
  · exact absurd hr hr'

end

/-! ## The statements -/

/-- Settles O6: what a move makes of one record keeps its bounds, and every setting a move writes is in its range. -/
theorem stepKeepsRanges : Obligations.StepKeepsRanges := fun _ _ he hs h =>
  ⟨keep_step (k := .all) False.elim trivial trivial (fun _ _ h => h) Move.elementsBounded he h,
    keep_step (k := .all) False.elim trivial trivial (fun _ _ h => h) Move.settingsInRange hs h⟩

/-- Settles O7: what a move makes of one record keeps its state and its check word as R57 and R83 say. -/
theorem stepKeepsRecordsAgree : Obligations.StepKeepsRecordsAgree :=
  ⟨fun _ _ hs h => keep_step (k := .all) False.elim trivial trivial (fun _ _ h => h) Move.statesDerived hs h,
    fun _ _ hs h => keep_step (k := .all) False.elim trivial trivial (fun _ _ h => h) Move.checksAgree hs h⟩

end Sys2Proof.Machine

/-! PROOF. Operating state, freeze, frames, supply and clocks over every step (R18, R23, R26, R155, R163, R165, R173,
R178), and the load reports against the zone owners (R44). -/

namespace Sys2Proof.Machine

section
variable {k : Scope} {s t : State}

/-! ## Ports against the operating state -/

/-- Every port's frame agrees with the operating state (R163, R173, R178). -/
def State.PortsFramed (s : State) : Prop := ∀ p, (s.ports.get p).Framed s.ctl.op

/-- The part of `State.ControlAgrees` that speaks of no port. -/
def State.Controlled (s : State) : Prop :=
  (s.ctl.op = .parked → s.pins.frozen = true ∧ s.pacer.ms = 0) ∧
    (s.ctl.op = .retained → s.pins.frozen = false ∧ s.pacer.ms = 0 ∧ s.scan.timer = none) ∧
    (s.ctl.op ≠ .retained → s.ctl.valid = true ∧ s.ctl.vmainLow = false ∧ s.ctl.rstnLow = false) ∧
    (s.ctl.vmainLow = true → s.ctl.vkeepLow = true → s.ctl.valid = false) ∧
    s.pacer.ms ≤ s.pacer.divider ∧ s.pacer.divider ≤ 65535 ∧ s.blink < 1000

theorem controlAgrees_iff (s : State) : s.ControlAgrees ↔ s.PortsFramed ∧ s.Controlled := by
  constructor
  · rintro ⟨hvoid, hbits, hparked, hret, hrun, hlow, hclocks⟩
    exact ⟨fun p => ⟨hvoid p, hbits p, fun h => (hparked h).2.1 p, fun h => (hret h).2.2.2 p⟩,
      fun h => ⟨(hparked h).1, (hparked h).2.2⟩, fun h => ⟨(hret h).1, (hret h).2.1, (hret h).2.2.1⟩, hrun, hlow,
      hclocks⟩
  · rintro ⟨hports, hparked, hret, hrun, hlow, hclocks⟩
    exact ⟨fun p => (hports p).1, fun p => (hports p).2.1,
      fun h => ⟨(hparked h).1, fun p => (hports p).2.2.1 h, (hparked h).2⟩,
      fun h => ⟨(hret h).1, (hret h).2.1, (hret h).2.2, fun p => (hports p).2.2.2 h⟩, hrun, hlow, hclocks⟩

/-- What a frame agrees with does not read the cursors, so that a change of them alone keeps it. -/
theorem portsFramed_map {ports : PerPort Interface} {f : Interface → Interface} {op : OpState}
    (h : ∀ p, (ports.get p).Framed op) (hf : ∀ i : Interface, i.Framed op → (f i).Framed op) (p : Port) :
    ((ports.map f).get p).Framed op := by
  rw [PerPort.get_map]
  exact hf _ (h p)

/-- A port written on keeps every frame if it keeps its own. -/
theorem portsFramed_set {ports : PerPort Interface} {q : Port} {i : Interface} {op : OpState}
    (h : ∀ p, (ports.get p).Framed op) (hi : i.Framed op) (p : Port) : ((ports.set q i).get p).Framed op := by
  rw [PerPort.get_set]
  split
  · exact hi
  · exact h p

/-- After a start a void frame is one under way, and nothing of it was answered (R178). -/
theorem started_framed (i : Interface) (kind : StartKind) : (i.started kind).Framed .active :=
  ⟨fun h => ⟨h, rfl⟩, Nat.zero_le _, fun h => OpState.noConfusion h, fun h => OpState.noConfusion h⟩

/-- A device that runs has frames of its own (R163, R178). -/
theorem framed_of_running {i : Interface} {op op' : OpState} (h : i.Framed op) (ho : op' = .active ∨ op' = .quiet) :
    i.Framed op' := by
  obtain ⟨hvoid, hbits, -⟩ := h
  obtain rfl | rfl := ho
  all_goals exact ⟨hvoid, hbits, fun h => OpState.noConfusion h, fun h => OpState.noConfusion h⟩

theorem Move.portsFramed (m : Move k s t) (h : s.PortsFramed) : t.PortsFramed := by
  cases m with
  | port p i _ _ hf => exact portsFramed_set h (hf (h p))
  | historyCursor p c _ =>
    intro q
    rw [State.setHistoryCursor, State.mapPort, PerPort.get_modify]
    split <;> exact h q
  | logCursor p c _ =>
    intro q
    rw [State.setLogCursor, State.mapPort, PerPort.get_modify]
    split <;> exact h q
  | historyCleared => exact portsFramed_map h fun _ h => h
  | logCleared => exact portsFramed_map h fun _ h => h
  | logged e ticket o wear renewals => exact portsFramed_map h fun _ h => h
  | horizon v _ => simpa [State.PortsFramed] using h
  | restated n e _ _ => simpa [State.PortsFramed, State.restateElement] using h
  | closed _ =>
    simpa [State.PortsFramed, State.countClose, State.restartCounters, State.countDownLoads] using h
  | windowEnded _ =>
    intro p
    simpa [State.endWindow, State.appendHistory, State.passElements, Interface.Framed] using h p
  | brought op _ ho => exact fun p => framed_of_running (h p) ho
  | parked hr _ _ hs _ =>
    intro p
    obtain ⟨hvoid, hbits, -⟩ := h p
    exact ⟨hvoid, hbits, fun _ => hs p, fun h => OpState.noConfusion h⟩
  | keep below =>
    intro p
    simpa [fed_op] using h p
  | monitor hr main rstn =>
    intro p
    simpa [fed_op] using h p
  | retained _ =>
    intro p
    simp only [State.enterRetained, PerPort.get_map]
    exact ⟨fun h => Bool.noConfusion h, Nat.zero_le _, fun h => OpState.noConfusion h, fun _ => rfl⟩
  | warm kind _ =>
    intro p
    simp only [State.warmStart, State.startCommon, State.restartScan, PerPort.get_map]
    exact started_framed _ _
  | cold _ _ =>
    intro p
    simp only [State.coldStart, PerPort.get_map]
    exact started_framed _ _
  | _ => exact h

/-! ## Supply and clocks -/

/-- The supply monitor makes the marker lost with VMAIN and VKEEP both low (R165). -/
theorem fed_valid (c : Control) (hm : c.fed.vmainLow = true) (hk : c.fed.vkeepLow = true) : c.fed.valid = false := by
  unfold Control.fed at *
  split
  · rfl
  · rename_i hn
    rw [if_neg hn] at hm hk
    simp [hm, hk] at hn

/-- With VMAIN above its trip level the monitor leaves the marker (R165). -/
theorem fed_valid_of_main {c : Control} (hm : c.vmainLow = false) : c.fed.valid = c.valid := by
  unfold Control.fed
  rw [hm]
  rfl

theorem reset_clocks : State.reset.pacer.divider ≤ 65535 ∧ State.reset.blink < 1000 := by decide

theorem Move.controlled (m : Move k s t) (hk : k.woken) (h : s.Controlled) : t.Controlled := by
  obtain ⟨hparked, hret, hrun, hlow, hms, hdivider, hblink⟩ := h
  cases m with
  | frozen hr => exact ⟨fun h => ⟨rfl, (hparked h).2⟩, fun h => absurd h hr, hrun, hlow, hms, hdivider, hblink⟩
  | unfrozen hw =>
    exact ⟨fun h => absurd h (hw hk), fun h => ⟨rfl, (hret h).2⟩, hrun, hlow, hms, hdivider, hblink⟩
  | timer x hr =>
    exact ⟨hparked, fun h => ⟨(hret h).1, (hret h).2.1, hr h⟩, hrun, hlow, hms, hdivider, hblink⟩
  | blink b hb => exact ⟨hparked, hret, hrun, hlow, hms, hdivider, hb⟩
  | ms m hm hz =>
    refine ⟨fun h => ⟨(hparked h).1, ?_⟩, fun h => ⟨(hret h).1, ?_, (hret h).2.2⟩, hrun, hlow, hm, hdivider, hblink⟩
    all_goals
      obtain hz | hz := hz
      · exact hz
      · have h : s.ctl.op = _ := h
        simp [State.running, h] at hz
  | divider d hd hm => exact ⟨hparked, hret, hrun, hlow, by simp [hm], hd, hblink⟩
  | horizon v _ => simpa [State.Controlled] using ⟨hparked, hret, hrun, hlow, hms, hdivider, hblink⟩
  | restated n e _ _ =>
    simpa [State.Controlled, State.restateElement] using ⟨hparked, hret, hrun, hlow, hms, hdivider, hblink⟩
  | closed hr =>
    simpa [State.Controlled, State.countClose, State.restartCounters, State.countDownLoads] using
      ⟨fun h => (hparked h).1, fun h => absurd h hr, hrun, hlow, hdivider, hblink⟩
  | windowEnded hr =>
    simpa [State.Controlled, State.endWindow, State.appendHistory, State.passElements] using
      ⟨hparked, hret, hrun, hlow, hms, hdivider, hblink⟩
  | brought op hr ho =>
    refine ⟨fun h => ?_, fun h => ?_, fun _ => hrun hr, hlow, hms, hdivider, hblink⟩ <;>
      obtain rfl | rfl := ho <;> cases h
  | parked hr hz hm _ _ =>
    exact ⟨fun _ => ⟨hz, hm⟩, fun h => OpState.noConfusion h, fun _ => hrun hr, hlow, hms, hdivider, hblink⟩
  | keep below =>
    refine ⟨?_, ?_, ?_, fed_valid _, hms, hdivider, hblink⟩
    · simpa [fed_op] using hparked
    · simpa [fed_op] using hret
    · intro hr
      have hr : s.ctl.op ≠ .retained := by simpa [fed_op] using hr
      obtain ⟨hv, hm, hl⟩ := hrun hr
      exact ⟨(fed_valid_of_main (c := { s.ctl with vkeepLow := below }) hm).trans hv, (fed_vmainLow _).trans hm,
        (fed_rstnLow _).trans hl⟩
  | monitor hr main rstn =>
    refine ⟨?_, ?_, ?_, fed_valid _, hms, hdivider, hblink⟩
    · simpa [fed_op] using hparked
    · simpa [fed_op] using hret
    · intro hn
      exact absurd hr (by simpa [fed_op] using hn)
  | lossOfReset hr => exact ⟨hparked, hret, fun hn => absurd hr hn, hlow, hms, hdivider, hblink⟩
  | retained hr =>
    refine ⟨fun h => OpState.noConfusion h, fun _ => ⟨rfl, rfl, rfl⟩, fun h => absurd rfl h, ?_, Nat.zero_le _,
      hdivider, Nat.succ_pos 999⟩
    exact hlow
  | warm kind hs =>
    have hmain : s.ctl.vmainLow = false ∧ s.ctl.rstnLow = false := by
      by_cases hr : s.ctl.op = .retained
      · exact hs hr
      · exact (hrun hr).2
    exact ⟨fun h => OpState.noConfusion h, fun h => OpState.noConfusion h, fun _ => ⟨rfl, hmain⟩,
      fun h => by
        have : s.ctl.vmainLow = true := h
        simp [hmain.1] at this, Nat.zero_le _, hdivider, Nat.succ_pos 999⟩
  | cold _ hs =>
    have hmain : s.ctl.vmainLow = false ∧ s.ctl.rstnLow = false := by
      by_cases hr : s.ctl.op = .retained
      · exact hs hr
      · exact (hrun hr).2
    exact ⟨fun h => OpState.noConfusion h, fun h => OpState.noConfusion h, fun _ => ⟨rfl, hmain⟩,
      fun h => by
        have : s.ctl.vmainLow = true := h
        simp [hmain.1] at this, Nat.zero_le _, reset_clocks⟩
  | _ => exact ⟨hparked, hret, hrun, hlow, hms, hdivider, hblink⟩

theorem Move.controlAgrees (m : Move k s t) (hk : k.woken) (h : s.ControlAgrees) : t.ControlAgrees := by
  obtain ⟨hp, hc⟩ := (controlAgrees_iff s).mp h
  exact (controlAgrees_iff t).mpr ⟨m.portsFramed hp, m.controlled hk hc⟩

/-! ## The load book -/

theorem loadsAgree_iff (s : State) : s.LoadsAgree ↔ ∀ z, (s.book.zones.get z).Fits := Iff.rfl

/-- A close counts a report down, the last close lapsing it (R47). -/
theorem countdown_agrees {r : LoadReport} {owner : Prop} (h : r.Agrees owner) : r.countdown.Agrees owner := by
  obtain ⟨hc, hlapsed, hstanding⟩ := h
  unfold LoadReport.countdown
  split
  · exact ⟨hc, hlapsed, hstanding⟩
  · rename_i hs
    obtain ⟨ho, hlo, hhi⟩ := hstanding (by simpa using hs)
    refine ⟨hc, fun h => ?_, fun h => ?_⟩
    · have : r.hold ≤ 1 := of_decide_eq_true h
      exact Nat.sub_eq_zero_of_le this
    · have : ¬r.hold ≤ 1 := of_decide_eq_false h
      exact ⟨ho, Nat.le_sub_one_of_lt (Nat.lt_of_not_le this), (Nat.sub_le _ _).trans hhi⟩

/-- A lapsed report agrees with any owner (R52). -/
theorem lapse_agrees {r : LoadReport} {owner owner' : Prop} (h : r.Agrees owner) : r.lapse.Agrees owner' :=
  ⟨h.1, fun _ => rfl, fun h => Bool.noConfusion h⟩

theorem Move.loadsAgree (m : Move k s t) (h : s.LoadsAgree) : t.LoadsAgree := by
  rw [loadsAgree_iff] at h ⊢
  intro z
  cases m with
  | zone y b _ hf =>
    change ((s.book.zones.set y b).get z).Fits
    rw [Table.get_set]
    split
    · exact hf (h y)
    · exact h z
  | horizon v _ => simpa using h z
  | restated n e _ _ => simpa [State.restateElement] using h z
  | closed _ =>
    obtain ⟨hf, hh, ha, hb⟩ := h z
    simpa [State.countClose, State.restartCounters, State.countDownLoads, ZoneBook.Fits] using
      ⟨hf, hh, countdown_agrees ha, countdown_agrees hb⟩
  | windowEnded _ => simpa [State.endWindow, State.appendHistory, State.passElements] using h z
  | warm kind _ =>
    obtain ⟨hf, hh, ha, hb⟩ := h z
    exact (Table.get_mapIdx s.book.zones _ z).symm ▸ ⟨hf, hh, lapse_agrees ha, lapse_agrees hb⟩
  | cold _ _ =>
    have hcold : ZoneBook.cold.Fits := by unfold ZoneBook.Fits; decide
    exact (Table.get_ofFn (fun _ => ZoneBook.cold) z).symm ▸ hcold
  | _ => exact h z

/-! ## The queue -/

/-- No move touches the commands that wait. -/
theorem Move.pending (m : Move k s t) : t.pending = s.pending := by
  cases m with
  | horizon v _ => simp
  | restated n e _ _ => simp [State.restateElement]
  | closed _ => simp [State.countClose, State.restartCounters, State.countDownLoads]
  | windowEnded _ => simp [State.endWindow, State.loadWindow, State.appendHistory, State.passElements]
  | _ => rfl

/-- Every command and every event goes on. -/
theorem exec_goes (c : Instr) (s : State) : Goes (exec c s) := by
  cases c with
  | retainedExit vmain rstn =>
    change Goes (execRetainedExit vmain rstn s)
    unfold execRetainedExit
    split
    · dsimp only
      split <;> exact ⟨_, rfl⟩
    · exact ⟨_, rfl⟩
  | retainedDisturbance n d =>
    change Goes (execRetainedDisturbance n d s)
    unfold execRetainedDisturbance
    dsimp only
    split <;> exact ⟨_, rfl⟩
  | levelFilterAccept line level =>
    change Goes (execLevelFilterAccept line level s)
    unfold execLevelFilterAccept
    split <;> exact ⟨_, rfl⟩
  | _ => exact ⟨_, rfl⟩

end

/-! ## The statements -/

/-- Settles O12: a move keeps each port's frame in agreement with the operating state, and the supply with the marker.
-/
theorem stepKeepsControl : Obligations.StepKeepsControl := fun _ _ hs h =>
  keep_step (k := ⟨True, True, True⟩) (fun _ => hs) trivial trivial (fun _ _ h => h)
    (fun m => m.controlAgrees trivial) hs h

/-- Settles O10: a move writes a zone of the load book only so that it still fits, and a close counts reports down. -/
theorem stepKeepsLoadsAgree : Obligations.StepKeepsLoadsAgree := fun _ _ hs h =>
  keep_step (k := .all) False.elim trivial trivial (fun _ _ h => h) Move.loadsAgree hs h

/-- Settles O1: a step with a command waiting is that command with the rest of the queue. -/
theorem stepTakesFront : Obligations.StepTakesFront := fun _ _ _ => rfl

/-- Settles O2: every row ends in a next state, and no move touches the queue. -/
theorem commandsAlwaysGo : Obligations.CommandsAlwaysGo := by
  refine ⟨fun s => ?_, fun c s t h => ?_⟩
  · cases hq : s.pending with
    | nil => exact ⟨s.idle, by simp only [step, hq]⟩
    | cons c rest => simpa only [step, hq] using exec_goes c { s with pending := rest }
  · exact Moves.keep (P := fun u => u.pending = s.pending) (fun m h => m.pending.trans h)
      (exec_moves (k := .all) c False.elim (fun _ => trivial) h) rfl

end Sys2Proof.Machine

/-! PROOF. Both rings over every step: numbered one by one within their capacity, each cursor in its ring or past
newest (R34, R35, R138, R139). One append is followed once, for either ring. -/

namespace Sys2Proof.Machine

/-! ## One append -/

/-- The number after the last of a list goes on its end. -/
theorem consecutive_append {l : List Nat} {x : Nat} (h : Consecutive l) (hx : ∀ q ∈ l.getLast?, x = nextSequence q) :
    Consecutive (l ++ [x]) := by
  induction l with
  | nil => trivial
  | cons a rest ih =>
    cases rest with
    | nil => exact ⟨hx a rfl, trivial⟩
    | cons b rest =>
      obtain ⟨hb, hrest⟩ := h
      exact ⟨hb, ih hrest fun q hq => hx q (by rwa [List.getLast?_cons_cons])⟩

theorem consecutive_tail {l : List Nat} (h : Consecutive l) : Consecutive l.tail := by
  match l, h with
  | [], h => exact h
  | [_], _ => trivial
  | _ :: _ :: _, ⟨_, h⟩ => exact h

section
variable {α : Type} {seqOf : α → Nat} {capacity latest lastField : Nat} {ring : List α} {r : α}

/-- The numbers a ring keeps at an append: all, or all but the oldest (R34, R138). -/
theorem map_pushRing (capacity : Nat) (ring : List α) (r : α) : (pushRing capacity ring r).map seqOf =
    (if ring.length < capacity then ring.map seqOf else (ring.map seqOf).tail) ++ [seqOf r] := by
  unfold pushRing
  split <;> simp

/-- A ring with the next number appended runs on. -/
theorem RingRuns.pushed (h : RingRuns capacity latest (ring.map seqOf)) (hc : 1 ≤ capacity)
    (hr : seqOf r = nextSequence latest) :
    RingRuns capacity (nextSequence latest) ((pushRing capacity ring r).map seqOf) := by
  obtain ⟨hlength, hrun, hlast, -⟩ := h
  rw [List.length_map] at hlength
  have hnext : nextSequence latest ≤ 4294967295 := Nat.le_of_lt_succ (Nat.mod_lt _ (by decide))
  refine ⟨?_, ?_, by simp [map_pushRing, hr], hnext⟩ <;> rw [map_pushRing] <;> split
  · rw [List.length_append, List.length_map]
    simpa using ‹ring.length < capacity›
  · rw [List.length_append, List.length_tail, List.length_map, List.length_singleton]
    omega
  · exact consecutive_append hrun fun q hq => hr.trans (hlast q hq ▸ rfl)
  · refine consecutive_append (consecutive_tail hrun) fun q hq => hr.trans (congrArg nextSequence (hlast q ?_).symm)
    rw [List.getLast?_tail] at hq
    split at hq
    · exact absurd hq (by simp)
    · exact hq

theorem oldestOf_mem (d : Nat) (h : ring ≠ []) : oldestOf seqOf ring d ∈ ring.map seqOf := by
  cases ring with
  | nil => exact absurd rfl h
  | cons a rest => exact List.mem_cons_self

/-- A record that an append does not drop is still in the ring (R36, R140). -/
theorem mem_pushRing_of_not_dropped {q : Nat} (hq : q ∈ ring.map seqOf)
    (hd : droppedBy capacity seqOf ring ≠ some q) : q ∈ (pushRing capacity ring r).map seqOf := by
  rw [map_pushRing]
  refine List.mem_append_left _ ?_
  split
  · exact hq
  · rename_i hfull
    cases ring with
    | nil => exact absurd hq (by simp)
    | cons a rest =>
      rw [droppedBy, if_neg hfull] at hd
      obtain rfl | hrest := List.mem_cons.mp hq
      · exact absurd rfl hd
      · exact hrest

/-- An append leaves every cursor in the ring (R35, R36, R139, R140). -/
theorem onAppend_inRing {c : Cursor} (h : c.InRing lastField (ring.map seqOf)) :
    (c.onAppend (seqOf r) (oldestOf seqOf (pushRing capacity ring r) (seqOf r))
      (droppedBy capacity seqOf ring)).InRing lastField ((pushRing capacity ring r).map seqOf) := by
  cases c with
  | past =>
    refine ⟨?_, Nat.zero_le _⟩
    rw [map_pushRing]
    simp
  | on q f =>
    obtain ⟨hq, hf⟩ := h
    by_cases hd : droppedBy capacity seqOf ring = some q
    · simp only [Cursor.onAppend, if_pos hd]
      exact ⟨oldestOf_mem _ (List.append_ne_nil_of_right_ne_nil _ (by simp)), Nat.zero_le _⟩
    · simp only [Cursor.onAppend, if_neg hd]
      exact ⟨mem_pushRing_of_not_dropped hq hd, hf⟩

end

/-- An empty ring runs on. -/
theorem RingRuns.cleared {capacity latest : Nat} {numbers : List Nat} (h : RingRuns capacity latest numbers) :
    RingRuns capacity latest [] :=
  ⟨Nat.zero_le _, trivial, fun _ h => absurd h (by simp), h.2.2.2⟩

/-! ## The window end's append -/

section
variable {k : Scope} {s t : State}

/-- The record that a window end appends (R32, R33). -/
def State.windowRecord (s : State) : WindowRecord :=
  ⟨nextSequence s.window.seq, s.window.loaded, s.history.sums, s.history.markers⟩

theorem endWindow_window (s : State) : s.endWindow.window = { s.window with
    remaining := s.window.length, loaded := s.window.length, seq := nextSequence s.window.seq } := by
  simp [State.endWindow, State.loadWindow, State.appendHistory, State.passElements]

theorem endWindow_history (s : State) : s.endWindow.history = { s.history with
    ring := pushRing Config.historyCapacity s.history.ring s.windowRecord
    sums := .ofFn fun _ => 0
    markers := .none } := by
  simp [State.endWindow, State.loadWindow, State.appendHistory, State.passElements, State.windowRecord]

theorem endWindow_ports (s : State) : s.endWindow.ports = s.ports.map fun i => { i with
    history := i.history.onAppend (nextSequence s.window.seq)
      (oldestOf WindowRecord.seq (pushRing Config.historyCapacity s.history.ring s.windowRecord)
        (nextSequence s.window.seq))
      (droppedBy Config.historyCapacity WindowRecord.seq s.history.ring) } := by
  simp [State.endWindow, State.loadWindow, State.appendHistory, State.passElements, State.windowRecord]

/-! ## Every move -/

theorem reset_historyRuns : State.reset.HistoryRuns := by
  refine ⟨⟨Nat.zero_le _, trivial, fun _ h => absurd h (by decide +revert), Nat.zero_le _⟩, by decide, by decide,
      by decide,
    fun p => ?_, fun _ h => absurd h (List.not_mem_nil), by decide⟩
  cases p <;> trivial

theorem reset_logRuns : State.reset.LogRuns := by
  refine ⟨⟨Nat.zero_le _, trivial, fun _ h => absurd h (by decide +revert), Nat.zero_le _⟩, fun p => ?_⟩
  cases p <;> trivial

/-- A history that only the ports are changed of runs on where its cursors do. -/
theorem Move.historyRuns (m : Move k s t) (h : s.HistoryRuns) : t.HistoryRuns := by
  have hs := h
  obtain ⟨hring, hlength, hloaded, hremaining, hcursors, hrecords, hsums⟩ := h
  cases m with
  | port p i hh _ _ =>
    refine ⟨hring, hlength, hloaded, hremaining, fun q => ?_, hrecords, hsums⟩
    change ((s.ports.set p i).get q).history.InRing 10 _
    rw [PerPort.get_set]
    split
    · exact hh ▸ hcursors p
    · exact hcursors q
  | historyCursor p c hc =>
    refine ⟨hring, hlength, hloaded, hremaining, fun q => ?_, hrecords, hsums⟩
    simp only [State.setHistoryCursor, State.mapPort, PerPort.get_modify]
    split
    · exact hc hs
    · exact hcursors q
  | logCursor p c _ =>
    refine ⟨hring, hlength, hloaded, hremaining, fun q => ?_, hrecords, hsums⟩
    simp only [State.setLogCursor, State.mapPort, PerPort.get_modify]
    split <;> exact hcursors q
  | historyCleared =>
    refine ⟨hring.cleared, hlength, hloaded, hremaining, fun q => ?_, fun _ h => absurd h List.not_mem_nil, hsums⟩
    simp only [PerPort.get_map]
    trivial
  | logCleared =>
    refine ⟨hring, hlength, hloaded, hremaining, fun q => ?_, hrecords, hsums⟩
    simpa only [PerPort.get_map] using hcursors q
  | logged e ticket o wear renewals =>
    refine ⟨hring, hlength, hloaded, hremaining, fun q => ?_, hrecords, hsums⟩
    simpa only [State.appendLog, PerPort.get_map] using hcursors q
  | windowLength v hv => exact ⟨hring, hv, hloaded, hremaining, hcursors, hrecords, hsums⟩
  | horizon v _ => simpa [State.HistoryRuns] using hs
  | restated n e _ _ => simpa [State.HistoryRuns, State.restateElement] using hs
  | closed _ =>
    refine ⟨?_, ?_, ?_, ?_, ?_, ?_, fun z => ?_⟩
    case refine_7 =>
      simp only [State.countClose, State.restartCounters, State.countDownLoads, State.accrueAll,
        State.bringDue_history, State.raiseIf_history, Table.get_mapIdx]
      exact min_le_left _ _
    case refine_4 =>
      simpa [State.countClose, State.restartCounters, State.countDownLoads] using (Nat.sub_le _ 1).trans hremaining
    all_goals simpa [State.countClose, State.restartCounters, State.countDownLoads, State.accrueAll]
  | windowEnded _ =>
    refine ⟨?_, ?_, ?_, ?_, fun p => ?_, fun r hr => ?_, fun z => ?_⟩
    · rw [endWindow_window, endWindow_history]
      exact hring.pushed (r := s.windowRecord) (by decide) rfl
    · simpa only [endWindow_window] using hlength
    · simpa only [endWindow_window] using hlength
    · simpa only [endWindow_window] using hlength.2
    · rw [endWindow_ports, endWindow_history, PerPort.get_map]
      exact onAppend_inRing (r := s.windowRecord) (hcursors p)
    · rw [endWindow_history, pushRing] at hr
      obtain hr | hr := List.mem_append.mp hr
      · split at hr
        · exact hrecords r hr
        · exact hrecords r (List.mem_of_mem_tail hr)
      · obtain rfl := List.mem_singleton.mp hr
        exact ⟨hloaded, hsums⟩
    · simp only [endWindow_history, Table.get_ofFn]
      exact Nat.zero_le _
  | retained _ =>
    refine ⟨hring, hlength, hloaded, hremaining, fun q => ?_, hrecords, hsums⟩
    simp only [State.enterRetained, PerPort.get_map]
    trivial
  | warm kind _ =>
    refine ⟨hring, hlength, hloaded, hremaining, fun q => ?_, hrecords, hsums⟩
    simp only [State.warmStart, State.startCommon, State.restartScan, PerPort.get_map]
    trivial
  | cold _ _ =>
    obtain ⟨hring, hlength, hloaded, hremaining, -, hrecords, hsums⟩ := reset_historyRuns
    refine ⟨hring, hlength, hloaded, hremaining, fun q => ?_, hrecords, hsums⟩
    simp only [State.coldStart, PerPort.get_map]
    trivial
  | _ => exact hs

theorem Move.logRuns (m : Move k s t) (h : s.LogRuns) : t.LogRuns := by
  have hs := h
  obtain ⟨hring, hcursors⟩ := h
  cases m with
  | port p i _ hl _ =>
    refine ⟨hring, fun q => ?_⟩
    change ((s.ports.set p i).get q).log.InRing 6 _
    rw [PerPort.get_set]
    split
    · exact hl ▸ hcursors p
    · exact hcursors q
  | historyCursor p c _ =>
    refine ⟨hring, fun q => ?_⟩
    simp only [State.setHistoryCursor, State.mapPort, PerPort.get_modify]
    split <;> exact hcursors q
  | logCursor p c hc =>
    refine ⟨hring, fun q => ?_⟩
    simp only [State.setLogCursor, State.mapPort, PerPort.get_modify]
    split
    · exact hc hs
    · exact hcursors q
  | historyCleared =>
    refine ⟨hring, fun q => ?_⟩
    simpa only [PerPort.get_map] using hcursors q
  | logCleared =>
    refine ⟨hring.cleared, fun q => ?_⟩
    simp only [PerPort.get_map]
    trivial
  | logged e ticket o wear renewals =>
    refine ⟨hring.pushed (r := (⟨nextSequence s.log.seq, e, ticket, o, wear, renewals, s.window.seq⟩ :
      ServiceRecord)) (by decide) rfl, fun q => ?_⟩
    simpa only [State.appendLog, PerPort.get_map] using onAppend_inRing (hcursors q)
  | horizon v _ => simpa [State.LogRuns] using hs
  | restated n e _ _ => simpa [State.LogRuns, State.restateElement] using hs
  | closed _ =>
    simpa [State.LogRuns, State.countClose, State.restartCounters, State.countDownLoads] using hs
  | windowEnded _ =>
    refine ⟨by simpa [State.endWindow, State.appendHistory, State.loadWindow, State.passElements] using hring,
      fun p => ?_⟩
    simpa [State.endWindow, State.appendHistory, State.loadWindow, State.passElements] using hcursors p
  | retained _ =>
    refine ⟨hring, fun q => ?_⟩
    simp only [State.enterRetained, PerPort.get_map]
    trivial
  | warm kind _ =>
    refine ⟨hring, fun q => ?_⟩
    simp only [State.warmStart, State.startCommon, State.restartScan, PerPort.get_map]
    trivial
  | cold _ _ =>
    refine ⟨reset_logRuns.1, fun q => ?_⟩
    simp only [State.coldStart, PerPort.get_map]
    trivial
  | _ => exact hs

end

/-- Settles O11: an append keeps the numbers running and each cursor in its ring, and no other move touches a ring but
to clear it. -/
theorem stepKeepsRings : Obligations.StepKeepsRings := fun _ _ hh hl h =>
  ⟨keep_step (k := .all) False.elim trivial trivial (fun _ _ h => h) Move.historyRuns hh h,
    keep_step (k := .all) False.elim trivial trivial (fun _ _ h => h) Move.logRuns hl h⟩

end Sys2Proof.Machine

/-! PROOF. The ticket table: what a change of one ticket, or of every ticket of a zone, keeps of it (R106, R107), and
how its zone's hold record follows (R108). The operations are taken one by one; the next part takes the moves. -/

namespace Sys2Proof.Machine

/-! ## The next ticket number -/

theorem numberAfter_range {n : Nat} (h : 1 ≤ n ∧ n ≤ 255) : 1 ≤ numberAfter n ∧ numberAfter n ≤ 255 := by
  unfold numberAfter
  split <;> omega

/-- The numbers go round, 1 following 255 (R107). -/
theorem iterate_numberAfter {n : Nat} (h : 1 ≤ n ∧ n ≤ 255) (j : Nat) :
    numberAfter^[j] n = (n - 1 + j) % 255 + 1 := by
  induction j with
  | zero =>
    rw [Function.iterate_zero_apply, Nat.add_zero, Nat.mod_eq_of_lt (by omega)]
    omega
  | succ j ih =>
    rw [Function.iterate_succ_apply', ih, numberAfter]
    split <;> omega

/-- What the search for a free number gives: the first one reached that is free, or the last one it reaches. -/
theorem freeNumber_eq (used : List Nat) (steps n : Nat) : ∃ j ≤ steps,
    freeNumber used steps n = numberAfter^[j] n ∧ (∀ i < j, numberAfter^[i] n ∈ used) ∧
      (j < steps → numberAfter^[j] n ∉ used) := by
  induction steps generalizing n with
  | zero => exact ⟨0, le_rfl, rfl, fun i hi => absurd hi (Nat.not_lt_zero i), fun h => absurd h (lt_irrefl 0)⟩
  | succ steps ih =>
    by_cases hn : n ∈ used
    · obtain ⟨j, hj, heq, hbefore, hfree⟩ := ih (numberAfter n)
      refine ⟨j + 1, Nat.succ_le_succ hj, by rw [freeNumber, if_pos hn]; exact heq, fun i hi => ?_,
        fun h => hfree (Nat.lt_of_succ_lt_succ h)⟩
      cases i with
      | zero => exact hn
      | succ i => exact hbefore i (Nat.lt_of_succ_lt_succ hi)
    · exact ⟨0, Nat.zero_le _, by rw [freeNumber, if_neg hn]; rfl, fun i hi => absurd hi (Nat.not_lt_zero i),
        fun _ => hn⟩

/-- Of nine numbers in a row one is free while fewer than 9 tickets stand (R107). -/
theorem nextNumber_free {s : State} (hn : 1 ≤ s.tickets.next ∧ s.tickets.next ≤ 255)
    (hl : s.tickets.table.length ≤ 8) : ∃ j ≤ 8, s.nextNumber = numberAfter^[j] s.tickets.next ∧
      (∀ i < j, numberAfter^[i] s.tickets.next ∈ s.tickets.table.map Ticket.number) ∧
      numberAfter^[j] s.tickets.next ∉ s.tickets.table.map Ticket.number := by
  obtain ⟨j, hj, heq, hbefore, hfree⟩ := freeNumber_eq (s.tickets.table.map Ticket.number) 9 s.tickets.next
  have hlt : j < 9 := by
    by_contra hge
    have hnodup : ((List.range 9).map fun i => numberAfter^[i] s.tickets.next).Nodup := by
      refine List.Nodup.map_on (fun i hi k hk h => ?_) List.nodup_range
      rw [List.mem_range] at hi hk
      simp only [iterate_numberAfter hn] at h
      omega
    have hsub : ((List.range 9).map fun i => numberAfter^[i] s.tickets.next) ⊆
        s.tickets.table.map Ticket.number := by
      intro q hq
      obtain ⟨i, hi, rfl⟩ := List.mem_map.mp hq
      exact hbefore i (by rw [List.mem_range] at hi; omega)
    have := (hnodup.subperm hsub).length_le
    simp only [List.length_map, List.length_range] at this
    omega
  exact ⟨j, by omega, heq, hbefore, hfree hlt⟩

theorem nextNumber_range {s : State} (hn : 1 ≤ s.tickets.next ∧ s.tickets.next ≤ 255) :
    1 ≤ s.nextNumber ∧ s.nextNumber ≤ 255 := by
  obtain ⟨j, -, heq, -⟩ := freeNumber_eq (s.tickets.table.map Ticket.number) 9 s.tickets.next
  rw [State.nextNumber, heq, iterate_numberAfter hn]
  omega

/-! ## One ticket -/

/-- The part of `Ticket.Sound` and of `State.TicketAgrees` that speaks of a ticket's state and timer; `slack` where an
AWAITING ticket's timer may stand at 0 (R106, R118). -/
def Ticket.Phased (t : Ticket) (slack : Prop) : Prop :=
  t.timer ≤ 65535000 ∧ (t.state ≠ .awaiting → t.timer = 0) ∧ (t.accessSeen = true → t.state = .working) ∧
    (t.state = .working → t.everWorked = true) ∧ (t.state = .awaiting → slack ∨ 1 ≤ t.timer)

/-- A ticket keeps its number, its zone and its elements. -/
def Ticket.Kept (t u : Ticket) : Prop :=
  u.number = t.number ∧ u.zone = t.zone ∧ u.items.map Item.element = t.items.map Item.element

theorem Ticket.kept_refl (t : Ticket) : t.Kept t := ⟨rfl, rfl, rfl⟩

section
variable {t u : Ticket} {slack : Prop} {g : Bool} {ms : Nat}

theorem Ticket.enterAwaiting_phased (t : Ticket) (slack : Prop) (h : 1 ≤ ms ∧ ms ≤ 65535000) :
    (t.enterAwaiting ms).Phased slack :=
  ⟨h.2, fun hn => absurd rfl hn, fun h => Bool.noConfusion h, fun h => TicketState.noConfusion h, fun _ => .inr h.1⟩

theorem Ticket.enterWorking_phased (t : Ticket) (slack : Prop) : (t.enterWorking g).Phased slack :=
  ⟨Nat.zero_le _, fun _ => rfl, fun _ => rfl, fun _ => rfl, fun h => TicketState.noConfusion h⟩

theorem Ticket.enterStalled_phased (t : Ticket) (slack : Prop) : t.enterStalled.Phased slack :=
  ⟨Nat.zero_le _, fun _ => rfl, fun h => Bool.noConfusion h, fun h => TicketState.noConfusion h,
    fun h => TicketState.noConfusion h⟩

/-- Where a hold record is not FREE once started, a started ticket is WORKING or AWAITING (R113). -/
theorem Ticket.started_phased (t : Ticket) (slack : Prop) (z : HoldState) (h : 1 ≤ ms ∧ ms ≤ 65535000) :
    (t.started z g ms).Phased slack := by
  cases z with
  | held => exact t.enterWorking_phased slack
  | free => exact t.enterAwaiting_phased slack h
  | requested => exact t.enterAwaiting_phased slack h

theorem Ticket.started_kept (t : Ticket) (z : HoldState) (g : Bool) (ms : Nat) : t.Kept (t.started z g ms) := by
  cases z <;> exact t.kept_refl

theorem Ticket.resolved_kept (t : Ticket) (e : Fin 64) (o : ItemOutcome) : t.Kept (t.resolved e o) := by
  refine ⟨rfl, rfl, ?_⟩
  rw [Ticket.resolved, List.map_map]
  refine List.map_congr_left fun i _ => ?_
  simp only [Function.comp]
  split <;> rfl

/-- Access-seen is a flag of a WORKING ticket alone (R106). -/
theorem Ticket.withAccess_phased (b : Bool) (h : t.Phased slack) (hw : t.state = .working) :
    Ticket.Phased { t with accessSeen := b } slack := by
  obtain ⟨ht, hz, -, he, hs⟩ := h
  exact ⟨ht, hz, fun _ => hw, he, hs⟩

end

/-! ## The table -/

/-- The ticket table against the element records (R106, R107), with the timers that may stand at 0. -/
def TableAgrees (elements : Table Element 64) (slack : Nat → Prop) (table : List Ticket) : Prop :=
  table.length ≤ 8 ∧ (table.map Ticket.number).Nodup ∧
    (table.flatMap fun t => t.items.map Item.element).Nodup ∧
    ∀ t ∈ table, (1 ≤ t.number ∧ t.number ≤ 255) ∧ (1 ≤ t.items.length ∧ t.items.length ≤ 6) ∧
      t.Phased (slack t.number) ∧
      ∀ e ∈ t.items.map Item.element, (elements.get e).zone = t.zone ∧ (elements.get e).inUse = true

section
variable {elements elements' : Table Element 64} {slack slack' : Nat → Prop} {table : List Ticket}

/-- A change of every ticket that keeps numbers, zones and elements keeps the table. -/
theorem TableAgrees.map (h : TableAgrees elements slack table) (f : Ticket → Ticket) (hk : ∀ t : Ticket, t.Kept (f t))
    (hp : ∀ t ∈ table, t.Phased (slack t.number) → (f t).Phased (slack' t.number)) :
    TableAgrees elements slack' (table.map f) := by
  obtain ⟨hl, hn, he, ht⟩ := h
  refine ⟨(List.length_map f).trans_le hl, ?_, ?_, fun u hu => ?_⟩
  · have hnumbers : (table.map f).map Ticket.number = table.map Ticket.number :=
      (List.map_map ..).trans (List.map_congr_left fun t _ => (hk t).1)
    rwa [hnumbers]
  · rwa [List.flatMap_map, List.flatMap_congr fun t _ => (hk t).2.2]
  · obtain ⟨t, hmem, rfl⟩ := List.mem_map.mp hu
    obtain ⟨hnumber, hzone, helements⟩ := hk t
    have hlength : (f t).items.length = t.items.length := by
      simpa using congrArg List.length helements
    obtain ⟨hrange, hitems, hphased, hrecords⟩ := ht t hmem
    rw [hnumber, hzone, helements, hlength]
    exact ⟨hrange, hitems, hp t hmem hphased, hrecords⟩

/-- Fewer tickets in the same order keep the table. -/
theorem TableAgrees.sublist {fewer : List Ticket} (h : TableAgrees elements slack table)
    (hs : fewer.Sublist table) : TableAgrees elements slack fewer := by
  obtain ⟨hl, hn, he, ht⟩ := h
  exact ⟨hs.length_le.trans hl, hn.sublist (hs.map _), he.sublist (hs.flatMap _),
    fun t htm => ht t (hs.subset htm)⟩

/-- Records that keep zone and use, for the elements that are items, keep the table. -/
theorem TableAgrees.of_elements (h : TableAgrees elements slack table)
    (he : ∀ t ∈ table, ∀ e ∈ t.items.map Item.element, (elements'.get e).zone = (elements.get e).zone ∧
      ((elements.get e).inUse = true → (elements'.get e).inUse = true)) : TableAgrees elements' slack table := by
  obtain ⟨hl, hn, hd, ht⟩ := h
  refine ⟨hl, hn, hd, fun t htm => ?_⟩
  obtain ⟨hrange, hitems, hphased, hrecords⟩ := ht t htm
  refine ⟨hrange, hitems, hphased, fun e hem => ?_⟩
  obtain ⟨hz, hu⟩ := hrecords e hem
  obtain ⟨hz', hu'⟩ := he t htm e hem
  exact ⟨hz'.trans hz, hu' hu⟩

/-- An element that is an item of no ticket. -/
theorem not_mem_of_not_onTicket {s : State} {e : Fin 64} (h : s.onTicket e = false) :
    ∀ t ∈ s.tickets.table, e ∉ t.items.map Item.element := by
  intro t ht he
  obtain ⟨i, hi, rfl⟩ := List.mem_map.mp he
  have : s.onTicket i.element = true :=
    List.any_eq_true.mpr ⟨t, ht, List.any_eq_true.mpr ⟨i, hi, decide_eq_true rfl⟩⟩
  simp [h] at this

/-- A ticket of a free number and a free element joins the table (R107, R111). -/
theorem TableAgrees.opened (h : TableAgrees elements slack table) (hl : table.length < 8) {n : Nat} {e : Fin 64}
    (hn : 1 ≤ n ∧ n ≤ 255) (hfree : n ∉ table.map Ticket.number) (hu : (elements.get e).inUse = true)
    (hb : ∀ t ∈ table, e ∉ t.items.map Item.element) :
    TableAgrees elements slack (table ++ [.opened n (elements.get e).zone e]) := by
  obtain ⟨-, hnodup, hd, ht⟩ := h
  refine ⟨by simpa using hl, ?_, ?_, fun t htm => ?_⟩
  · rw [List.map_append]
    refine hnodup.append (List.nodup_singleton _) fun q hq hq' => hfree ?_
    obtain rfl : q = n := List.mem_singleton.mp hq'
    exact hq
  · rw [List.flatMap_append]
    refine hd.append (List.nodup_singleton _) fun q hq hq' => ?_
    obtain rfl : q = e := List.mem_singleton.mp hq'
    obtain ⟨t, htm, hqt⟩ := List.mem_flatMap.mp hq
    exact hb t htm hqt
  · obtain htm | htm := List.mem_append.mp htm
    · exact ht t htm
    · obtain rfl := List.mem_singleton.mp htm
      refine ⟨hn, ⟨le_rfl, Nat.le_add_left 1 5⟩, ⟨Nat.zero_le _, fun _ => rfl, fun h => Bool.noConfusion h,
        fun h => TicketState.noConfusion h, fun h => TicketState.noConfusion h⟩, fun q hq => ?_⟩
      obtain rfl : q = e := List.mem_singleton.mp hq
      exact ⟨rfl, hu⟩

end

/-! ## One ticket of the table -/

/-- A ticket found by its number stands alone with it, between the tickets before and after it. -/
theorem ticket?_split {s : State} {n : Nat} {t : Ticket} (ht : s.ticket? n = some t)
    (hn : (s.tickets.table.map Ticket.number).Nodup) : t.number = n ∧ ∃ l₁ l₂, s.tickets.table = l₁ ++ t :: l₂ ∧
      (∀ f : Ticket → Ticket, (s.tickets.table.map fun u => if u.number = t.number then f u else u) =
        l₁ ++ f t :: l₂) ∧
      (s.tickets.table.filter fun u => u.number != t.number) = l₁ ++ l₂ := by
  have hnumber : t.number = n := by simpa using List.find?_some ht
  obtain ⟨l₁, l₂, htable⟩ := List.append_of_mem (List.mem_of_find?_eq_some ht)
  rw [htable, List.map_append, List.map_cons] at hn
  obtain ⟨-, hn₂, hdisjoint⟩ := List.nodup_append.mp hn
  have h₁ : ∀ u ∈ l₁, u.number ≠ t.number := fun u hu =>
    hdisjoint _ (List.mem_map_of_mem hu) _ List.mem_cons_self
  have h₂ : ∀ u ∈ l₂, u.number ≠ t.number := fun u hu he =>
    (List.nodup_cons.mp hn₂).1 (he ▸ List.mem_map_of_mem hu)
  refine ⟨hnumber, l₁, l₂, htable, fun f => ?_, ?_⟩
  · have hid : ∀ l : List Ticket, (∀ u ∈ l, u.number ≠ t.number) →
        (l.map fun u => if u.number = t.number then f u else u) = l := fun l hl =>
      (List.map_congr_left fun u hu => if_neg (hl u hu)).trans (List.map_id' l)
    rw [htable, List.map_append, List.map_cons, hid l₁ h₁, hid l₂ h₂, if_pos rfl]
  · have hkeep : ∀ l : List Ticket, (∀ u ∈ l, u.number ≠ t.number) →
        (l.filter fun u => u.number != t.number) = l := fun l hl =>
      List.filter_eq_self.mpr fun u hu => bne_iff_ne.mpr (hl u hu)
    rw [htable, List.filter_append, List.filter_cons, hkeep l₁ h₁, hkeep l₂ h₂]
    simp

/-- An item of a free element of the ticket's zone joins a ticket with room (R112). -/
theorem TableAgrees.itemAdded {elements : Table Element 64} {slack : Nat → Prop} {l₁ l₂ : List Ticket} {t : Ticket}
    {e : Fin 64} (h : TableAgrees elements slack (l₁ ++ t :: l₂)) (hu : (elements.get e).inUse = true)
    (hz : (elements.get e).zone = t.zone) (hl : t.items.length < 6)
    (hb : ∀ u ∈ l₁ ++ t :: l₂, e ∉ u.items.map Item.element) :
    TableAgrees elements slack (l₁ ++ { t with items := t.items ++ [⟨e, .pending⟩] } :: l₂) := by
  obtain ⟨hlength, hnodup, hd, ht⟩ := h
  refine ⟨by simpa using hlength, by simpa using hnodup, ?_, fun u hmem => ?_⟩
  · have hperm : ((l₁ ++ { t with items := t.items ++ [⟨e, .pending⟩] } :: l₂).flatMap fun t =>
        t.items.map Item.element).Perm (e :: (l₁ ++ t :: l₂).flatMap fun t => t.items.map Item.element) := by
      simp only [List.flatMap_append, List.flatMap_cons, List.map_append, List.map_cons, List.map_nil,
        List.append_assoc, List.singleton_append]
      exact (List.Perm.append_left _ List.perm_middle).trans List.perm_middle
    refine hperm.nodup_iff.mpr (List.nodup_cons.mpr ⟨fun he => ?_, hd⟩)
    obtain ⟨u, hum, heu⟩ := List.mem_flatMap.mp he
    exact hb u hum heu
  · obtain hmem | hmem := List.mem_append.mp hmem
    · exact ht u (List.mem_append_left _ hmem)
    · obtain rfl | hmem := List.mem_cons.mp hmem
      · obtain ⟨hrange, hitems, hphased, hrecords⟩ := ht t (List.mem_append_right _ List.mem_cons_self)
        refine ⟨hrange, by simp only [List.length_append, List.length_singleton]; omega, hphased, fun q hq => ?_⟩
        rw [List.map_append] at hq
        obtain hq | hq := List.mem_append.mp hq
        · exact hrecords q hq
        · obtain rfl : q = e := List.mem_singleton.mp hq
          exact ⟨hz, hu⟩
      · exact ht u (List.mem_append_right _ (List.mem_cons_of_mem _ hmem))

end Sys2Proof.Machine

/-! PROOF. Tickets, hold records, grants and owners over every step (R106 to R108, R115 to R121, R132). A hold record is
said in two parts: its grants against the zone's owner, and its demand and state against the zone's tickets. -/

namespace Sys2Proof.Machine

/-! ## Grants against the owner -/

/-- The grants of a hold record against the owner of its zone (R108). -/
def HoldRecord.Owned (h : HoldRecord) (o : Owner) : Prop :=
  (h.state = .free → ∀ side, h.grant side = false) ∧ (∀ side, h.grant side = true → o.has side = true) ∧
    (h.state = .held → ∀ side, o.has side = true → h.grant side = true) ∧
    (h.state = .requested → ∃ side, o.has side = true ∧ h.grant side = false)

section
variable {h : HoldRecord} {o : Owner} {side : Side}

theorem HoldRecord.cold_grant (side : Side) : HoldRecord.cold.grant side = false := by cases side <;> rfl

theorem Owner.nobody_has (side : Side) : Owner.nobody.has side = false := by cases side <;> rfl

theorem HoldRecord.cold_owned (o : Owner) : HoldRecord.cold.Owned o :=
  ⟨fun _ => cold_grant, fun side hg => absurd hg (by simp [cold_grant]), fun hs => HoldState.noConfusion hs,
    fun hs => HoldState.noConfusion hs⟩

/-- A FREE hold record has no grant, whoever owns the zone (R42, R108). -/
theorem HoldRecord.Owned.of_free {o' : Owner} (ho : h.Owned o) (hf : h.state = .free) : h.Owned o' := by
  obtain ⟨hfree, -⟩ := ho
  exact ⟨hfree, fun side hg => by simp [hfree hf side] at hg, fun hs => by simp [hf] at hs,
      fun hs => by simp [hf] at hs⟩

theorem Owner.allGranted_iff : o.allGranted h = true ↔ ∀ side, o.has side = true → h.grant side = true := by
  simp only [allGranted, Bool.and_eq_true, Bool.or_eq_true, Bool.not_eq_true']
  constructor
  · rintro ⟨ha, hb⟩ side hs
    cases side
    · exact ha.resolve_left (by simp [hs])
    · exact hb.resolve_left (by simp [hs])
  · intro hall
    exact ⟨(Bool.eq_false_or_eq_true (o.has .a)).symm.imp_right (hall .a),
      (Bool.eq_false_or_eq_true (o.has .b)).symm.imp_right (hall .b)⟩

theorem HoldRecord.grant_withGrant (h : HoldRecord) (side x : Side) (b : Bool) :
    (h.withGrant side b).grant x = if x = side then b else h.grant x := by
  cases side <;> cases x <;> rfl

theorem HoldRecord.withGrant_state (h : HoldRecord) (side : Side) (b : Bool) :
    (h.withGrant side b).state = h.state ∧ (h.withGrant side b).demand = h.demand := by
  cases side <;> exact ⟨rfl, rfl⟩

/-- What an owner's new grant leaves of the grants' owners (R115). -/
theorem HoldRecord.Owned.grants_withGrant (ho : h.Owned o) (hs : o.has side = true) (x : Side)
    (hg : (h.withGrant side true).grant x = true) : o.has x = true := by
  rw [grant_withGrant] at hg
  split at hg
  · rename_i hx
    rwa [hx]
  · exact ho.2.1 x hg

/-- The grant that completes the owners' grants makes the zone HELD (R116). -/
theorem HoldRecord.Owned.completed (ho : h.Owned o) (hs : o.has side = true)
    (hall : o.allGranted (h.withGrant side true) = true) :
    HoldRecord.Owned { h.withGrant side true with state := .held } o :=
  ⟨fun hf => HoldState.noConfusion hf, ho.grants_withGrant hs, fun _ => Owner.allGranted_iff.mp hall,
    fun hr => HoldState.noConfusion hr⟩

/-- A grant recorded while another owner's is missing (R115). -/
theorem HoldRecord.Owned.recorded (ho : h.Owned o) (hs : o.has side = true) (hf : h.state ≠ .free)
    (hall : ¬o.allGranted (h.withGrant side true) = true) : (h.withGrant side true).Owned o := by
  have hmissing : ∃ x, o.has x = true ∧ (h.withGrant side true).grant x = false := by
    by_contra hnone
    refine hall (Owner.allGranted_iff.mpr fun x hx => ?_)
    by_contra hg
    exact hnone ⟨x, hx, by simpa using hg⟩
  have hstate := (h.withGrant_state side true).1
  refine ⟨fun hfree => absurd (hstate.symm.trans hfree) hf, ho.grants_withGrant hs, fun hheld => ?_, fun _ => hmissing⟩
  obtain ⟨-, -, hcomplete, -⟩ := ho
  intro x hx
  rw [grant_withGrant]
  split
  · rfl
  · exact hcomplete (hstate.symm.trans hheld) x hx

/-- A zone that is REQUESTED with some owner's grant missing, the grants standing being those of owners. -/
theorem HoldRecord.owned_requested (hs : o.has side = true) (hm : h.grant side = false)
    (hg : ∀ x, h.grant x = true → o.has x = true) : HoldRecord.Owned { h with state := .requested } o :=
  ⟨fun hf => HoldState.noConfusion hf, hg, fun hh => HoldState.noConfusion hh, fun _ => ⟨side, hs, hm⟩⟩

/-- What a withdrawn grant leaves of the grants' owners (R117). -/
theorem HoldRecord.Owned.grants_withdrawn (ho : h.Owned o) (x : Side)
    (hg : (h.withGrant side false).grant x = true) : o.has x = true := by
  rw [grant_withGrant] at hg
  split at hg
  · exact Bool.noConfusion hg
  · exact ho.2.1 x hg

theorem HoldRecord.grant_withdrawn (h : HoldRecord) (side : Side) : (h.withGrant side false).grant side = false := by
  rw [grant_withGrant, if_pos rfl]

/-- The grants cleared in a zone with an owner (R120, R121). -/
theorem HoldRecord.owned_cleared (hs : o.has side = true) :
    HoldRecord.Owned { h with state := .requested, grantA := false, grantB := false } o :=
  owned_requested (h := { h with grantA := false, grantB := false }) hs (by cases side <;> rfl)
    fun x hx => by cases x <;> cases hx

/-- The demand of a zone is no grant. -/
theorem HoldRecord.Owned.withDemand (ho : h.Owned o) (d : Nat) : HoldRecord.Owned { h with demand := d } o := ho

theorem HoldRecord.Owned.lowered (ho : h.Owned o) : h.lowered.Owned o := by
  unfold HoldRecord.lowered
  split
  · exact cold_owned o
  · exact ho.withDemand _

/-- A ticket started in a FREE zone asks its owners for it, and in one without an owner has it (R113). -/
theorem HoldRecord.Owned.started (ho : h.Owned o) (d : Nat) :
    HoldRecord.Owned { h with state := startedHold h.state o, demand := d } o := by
  cases hs : h.state with
  | free =>
    obtain ⟨hfree, hgrants, -⟩ := ho
    have hnone := hfree hs
    cases o with
    | nobody =>
      exact ⟨fun hf => HoldState.noConfusion hf, hgrants,
        fun _ x hx => absurd hx (by simp [Owner.nobody_has]), fun hr => HoldState.noConfusion hr⟩
    | a => exact owned_requested (h := { h with demand := d }) (side := .a) rfl (hnone .a) hgrants
    | b => exact owned_requested (h := { h with demand := d }) (side := .b) rfl (hnone .b) hgrants
    | both => exact owned_requested (h := { h with demand := d }) (side := .a) rfl (hnone .a) hgrants
  | requested =>
    have hstart : startedHold .requested o = h.state := hs.symm
    exact hstart ▸ ho.withDemand d
  | held =>
    have hstart : startedHold .held o = h.state := hs.symm
    exact hstart ▸ ho.withDemand d

end

/-! ## Demand and state against the zone's tickets -/

/-- How many tickets of the table are AWAITING or WORKING in a zone (R108). -/
def activeCount (table : List Ticket) (z : Fin 8) : Nat := table.countP fun t => t.zone = z && t.active

/-- A hold record against the tickets of its zone (R108). -/
def HoldRecord.Serves (h : HoldRecord) (table : List Ticket) (z : Fin 8) : Prop :=
  h.demand = activeCount table z ∧ (h.state = .free ↔ activeCount table z = 0) ∧
    ∀ t ∈ table, t.zone = z → (t.state = .working → h.state = .held) ∧ (t.state = .awaiting → h.state = .requested)

section
variable {h : HoldRecord} {o : Owner} {table l₁ l₂ : List Ticket} {t : Ticket} {z : Fin 8}

theorem Ticket.active_iff : t.active = true ↔ t.state = .awaiting ∨ t.state = .working := by
  simp [Ticket.active]

theorem Ticket.active_eq_false_iff : t.active = false ↔ t.state ≠ .awaiting ∧ t.state ≠ .working := by
  simp [Ticket.active]

/-- A change of every ticket that keeps zones, and activity in this zone, keeps the count. -/
theorem activeCount_map {f : Ticket → Ticket} (hz : ∀ t ∈ table, (f t).zone = t.zone)
    (ha : ∀ t ∈ table, t.zone = z → (f t).active = t.active) :
    activeCount (table.map f) z = activeCount table z := by
  unfold activeCount
  rw [List.countP_map]
  refine List.countP_congr fun t ht => ?_
  simp only [Function.comp, hz t ht, Bool.and_eq_true, decide_eq_true_eq]
  exact and_congr_right fun hzt => by rw [ha t ht hzt]

theorem activeCount_split (l₁ l₂ : List Ticket) (t : Ticket) (z : Fin 8) : activeCount (l₁ ++ t :: l₂) z =
    activeCount (l₁ ++ l₂) z + if t.zone = z ∧ t.active = true then 1 else 0 := by
  simp only [activeCount, List.countP_append, List.countP_cons, Bool.and_eq_true, decide_eq_true_eq]
  omega

/-- The tickets of a zone that keep their states keep their hold record. -/
theorem HoldRecord.Serves.map (hs : h.Serves table z) {f : Ticket → Ticket} (hz : ∀ t : Ticket, (f t).zone = t.zone)
    (hst : ∀ t ∈ table, t.zone = z → (f t).state = t.state) : h.Serves (table.map f) z := by
  obtain ⟨hd, hf, ht⟩ := hs
  have hcount : activeCount (table.map f) z = activeCount table z :=
    activeCount_map (fun t _ => hz t) fun t htm hzt => by rw [Ticket.active, hst t htm hzt]; rfl
  refine ⟨hd.trans hcount.symm, by rw [hcount]; exact hf, fun u hu hzu => ?_⟩
  obtain ⟨t, htm, rfl⟩ := List.mem_map.mp hu
  have hzt : t.zone = z := (hz t).symm.trans hzu
  rw [hst t htm hzt]
  exact ht t htm hzt

/-- A ticket of another zone, or one that is neither AWAITING nor WORKING, is nothing to a hold record. -/
theorem HoldRecord.serves_split (ht : t.zone ≠ z ∨ t.active = false) :
    h.Serves (l₁ ++ t :: l₂) z ↔ h.Serves (l₁ ++ l₂) z := by
  have hcount : activeCount (l₁ ++ t :: l₂) z = activeCount (l₁ ++ l₂) z := by
    rw [activeCount_split, if_neg, Nat.add_zero]
    rintro ⟨hz, ha⟩
    obtain ht | ht := ht
    · exact ht hz
    · simp [ha] at ht
  unfold Serves
  rw [hcount]
  refine and_congr_right fun _ => and_congr_right fun _ => ⟨fun hall u hu => hall u ?_, fun hall u hu hz => ?_⟩
  · obtain hu | hu := List.mem_append.mp hu
    · exact List.mem_append_left _ hu
    · exact List.mem_append_right _ (List.mem_cons_of_mem _ hu)
  · obtain hu | hu := List.mem_append.mp hu
    · exact hall u (List.mem_append_left _ hu) hz
    · obtain rfl | hu := List.mem_cons.mp hu
      · have hidle := Ticket.active_eq_false_iff.mp (ht.resolve_left fun hne => hne hz)
        exact ⟨fun hw => absurd hw hidle.2, fun ha => absurd ha hidle.1⟩
      · exact hall u (List.mem_append_right _ hu) hz

/-- A zone with an AWAITING or WORKING ticket is not FREE. -/
theorem HoldRecord.Serves.ne_free (hs : h.Serves table z) (ht : t ∈ table) (hz : t.zone = z) (ha : t.active = true) :
    h.state ≠ .free := by
  obtain ⟨-, hf, -⟩ := hs
  intro hfree
  have := List.countP_eq_zero.mp (hf.mp hfree) t ht
  simp [hz, ha] at this

/-- A started ticket raises the demand of its zone (R113). -/
theorem HoldRecord.Serves.started {u : Ticket} {g : Bool} {ms : Nat} (hs : h.Serves (l₁ ++ l₂) z) (hz : u.zone = z) :
    HoldRecord.Serves { h with state := startedHold h.state o, demand := h.demand + 1 }
      (l₁ ++ u.started (startedHold h.state o) g ms :: l₂) z := by
  obtain ⟨hd, hf, ht⟩ := hs
  have hne : startedHold h.state o ≠ .free := by
    cases h.state <;> cases o <;> exact fun hc => HoldState.noConfusion hc
  have hst : ((u.started (startedHold h.state o) g ms).state = .working → startedHold h.state o = .held) ∧
      ((u.started (startedHold h.state o) g ms).state = .awaiting → startedHold h.state o = .requested) := by
    generalize startedHold h.state o = x at hne
    cases x with
    | free => exact absurd rfl hne
    | requested => exact ⟨fun h => TicketState.noConfusion h, fun _ => rfl⟩
    | held => exact ⟨fun _ => rfl, fun h => TicketState.noConfusion h⟩
  have hcount : activeCount (l₁ ++ u.started (startedHold h.state o) g ms :: l₂) z = activeCount (l₁ ++ l₂) z + 1 := by
    rw [activeCount_split, if_pos]
    refine ⟨(u.started_kept _ g ms).2.1.trans hz, ?_⟩
    generalize startedHold h.state o = x
    cases x <;> rfl
  refine ⟨by rw [hcount, ← hd], ⟨fun hc => absurd hc hne, fun hc => by omega⟩, fun v hv hzv => ?_⟩
  have hold : v ∈ l₁ ++ l₂ → (v.state = .working → startedHold h.state o = .held) ∧
      (v.state = .awaiting → startedHold h.state o = .requested) := by
    intro hv
    obtain ⟨hw, ha⟩ := ht v hv hzv
    exact ⟨fun hc => by rw [hw hc]; rfl, fun hc => by rw [ha hc]; rfl⟩
  obtain hv | hv := List.mem_append.mp hv
  · exact hold (List.mem_append_left _ hv)
  · obtain rfl | hv := List.mem_cons.mp hv
    · exact hst
    · exact hold (List.mem_append_right _ hv)

/-- One AWAITING or WORKING ticket less lowers the demand, and the last one frees the zone (R119). -/
theorem HoldRecord.Serves.lowered (hs : h.Serves (l₁ ++ t :: l₂) z) (hz : t.zone = z) (ha : t.active = true) :
    h.lowered.Serves (l₁ ++ l₂) z := by
  have hne := hs.ne_free (List.mem_append_right _ List.mem_cons_self) hz ha
  obtain ⟨hd, hf, ht⟩ := hs
  rw [activeCount_split, if_pos ⟨hz, ha⟩] at hd
  have hrest : ∀ v ∈ l₁ ++ l₂, v ∈ l₁ ++ t :: l₂ := fun v hv => by
    obtain hv | hv := List.mem_append.mp hv
    · exact List.mem_append_left _ hv
    · exact List.mem_append_right _ (List.mem_cons_of_mem _ hv)
  unfold HoldRecord.lowered
  split
  · rename_i hlast
    have hzero : activeCount (l₁ ++ l₂) z = 0 := by omega
    refine ⟨hzero.symm, ⟨fun _ => hzero, fun _ => rfl⟩, fun v hv hzv => ?_⟩
    have hidle : v.active = false := by
      have := List.countP_eq_zero.mp hzero v hv
      simpa [hzv] using this
    obtain ⟨hna, hnw⟩ := Ticket.active_eq_false_iff.mp hidle
    exact ⟨fun hw => absurd hw hnw, fun ha => absurd ha hna⟩
  · rename_i hlast
    refine ⟨by simp only [hd]; omega, ⟨fun hc => absurd hc hne, fun hc => by omega⟩, fun v hv => ht v (hrest v hv)⟩

/-- The WORKING tickets of a HELD zone go back to AWAITING with it (R117, R120). -/
theorem HoldRecord.Serves.dropped {h' : HoldRecord} {ms : Nat} (hs : h.Serves table z) (hheld : h.state = .held)
    (hd' : h'.demand = h.demand) (hr : h'.state = .requested) :
    h'.Serves (table.map fun t => if t.zone = z then if t.state = .working then t.enterAwaiting ms else t else t)
      z := by
  have hne : activeCount table z ≠ 0 := fun hc => by
    have := hs.2.1.mpr hc
    simp [hheld] at this
  obtain ⟨hd, -, ht⟩ := hs
  have hcount : activeCount (table.map fun t =>
      if t.zone = z then if t.state = .working then t.enterAwaiting ms else t else t) z = activeCount table z := by
    refine activeCount_map (fun t _ => ?_) fun t _ hz => ?_
    · split <;> [split; skip] <;> rfl
    · rw [if_pos hz]
      split
      · rename_i hw
        simp [Ticket.active, Ticket.enterAwaiting, hw]
      · rfl
  refine ⟨hd'.trans (hd.trans hcount.symm), ⟨fun hc => by simp [hr] at hc, fun hc => absurd (hcount.symm.trans hc) hne⟩,
    fun v hv hzv => ⟨fun hw => ?_, fun _ => hr⟩⟩
  obtain ⟨t, htm, rfl⟩ := List.mem_map.mp hv
  split at hw
  · split at hw
    · exact TicketState.noConfusion hw
    · contradiction
  · rename_i hz
    simp only [if_neg hz] at hzv
    exact absurd hzv hz

/-- The AWAITING tickets of a zone become WORKING with it (R116). -/
theorem HoldRecord.Serves.held {h' : HoldRecord} {g : Bool} (hs : h.Serves table z) (hne : h.state ≠ .free)
    (hd' : h'.demand = h.demand) (hr : h'.state = .held) :
    h'.Serves (table.map fun t => if t.zone = z then if t.state = .awaiting then t.enterWorking g else t else t)
      z := by
  have hne : activeCount table z ≠ 0 := fun hc => hne (hs.2.1.mpr hc)
  obtain ⟨hd, -, ht⟩ := hs
  have hcount : activeCount (table.map fun t =>
      if t.zone = z then if t.state = .awaiting then t.enterWorking g else t else t) z = activeCount table z := by
    refine activeCount_map (fun t _ => ?_) fun t _ hz => ?_
    · split <;> [split; skip] <;> rfl
    · rw [if_pos hz]
      split
      · rename_i hw
        simp [Ticket.active, Ticket.enterWorking, hw]
      · rfl
  refine ⟨hd'.trans (hd.trans hcount.symm), ⟨fun hc => by simp [hr] at hc, fun hc => absurd (hcount.symm.trans hc) hne⟩,
    fun v hv hzv => ⟨fun _ => hr, fun ha => ?_⟩⟩
  obtain ⟨t, htm, rfl⟩ := List.mem_map.mp hv
  split at ha
  · split at ha
    · exact TicketState.noConfusion ha
    · contradiction
  · rename_i hz
    simp only [if_neg hz] at hzv
    exact absurd hzv hz

end

end Sys2Proof.Machine

/-! PROOF. The Ticket Unit over every move and every step (R106 to R108, R118, R131). -/

namespace Sys2Proof.Machine

/-! ## The Ticket Unit against records and owners -/

/-- The Ticket Unit against the element records and the zone owners, with the timers that may stand at 0 (R106 to
R110). -/
def TicketUnit.Agrees (tk : TicketUnit) (elements : Table Element 64) (slack : Nat → Prop) (owner : Fin 8 → Owner) :
    Prop :=
  TableAgrees elements slack tk.table ∧
    (∀ z, (tk.holds.get z).Owned (owner z) ∧ (tk.holds.get z).Serves tk.table z) ∧
    (1 ≤ tk.next ∧ tk.next ≤ 255) ∧ (1 ≤ tk.grantTime ∧ tk.grantTime ≤ 65535)

/-- A change of a table entry after another one of the same entry. -/
theorem Table.modify_modify {α : Type} {n : Nat} (t : Table α n) (i : Fin n) (f g : α → α) :
    (t.modify i f).modify i g = t.modify i fun a => g (f a) := by
  refine Table.ext_get fun j => ?_
  simp only [Table.get_modify]
  by_cases hj : j = i
  · simp [hj]
  · simp [hj]

section
variable {tk : TicketUnit} {elements : Table Element 64} {slack slack' : Nat → Prop} {owner : Fin 8 → Owner}

/-- A change of every ticket that keeps what they are and their states. -/
theorem TicketUnit.Agrees.mapTickets (h : tk.Agrees elements slack owner) (f : Ticket → Ticket)
    (hk : ∀ t : Ticket, t.Kept (f t)) (hp : ∀ t ∈ tk.table, t.Phased (slack t.number) → (f t).Phased (slack' t.number))
    (hst : ∀ t : Ticket, (f t).state = t.state) :
    TicketUnit.Agrees { tk with table := tk.table.map f } elements slack' owner := by
  obtain ⟨ht, hz, hn, hg⟩ := h
  exact ⟨ht.map f hk hp, fun z => ⟨(hz z).1, (hz z).2.map (fun t => (hk t).2.1) fun t _ _ => hst t⟩, hn, hg⟩

/-- A change of the tickets and the hold record of one zone. -/
theorem TicketUnit.Agrees.mapZone (h : tk.Agrees elements slack owner) (z : Fin 8) (f : Ticket → Ticket)
    (g : HoldRecord → HoldRecord) (hk : ∀ t : Ticket, t.Kept (f t))
    (hp : ∀ t ∈ tk.table, t.Phased (slack t.number) → (f t).Phased (slack t.number))
    (hother : ∀ t ∈ tk.table, t.zone ≠ z → (f t).state = t.state) (ho : (g (tk.holds.get z)).Owned (owner z))
    (hs : (g (tk.holds.get z)).Serves (tk.table.map f) z) :
    TicketUnit.Agrees { tk with table := tk.table.map f, holds := tk.holds.modify z g } elements slack owner := by
  obtain ⟨ht, hz, hn, hg⟩ := h
  refine ⟨ht.map f hk hp, fun y => ?_, hn, hg⟩
  rw [Table.get_modify]
  split
  · rename_i hy
    subst hy
    exact ⟨ho, hs⟩
  · rename_i hy
    exact ⟨(hz y).1, (hz y).2.map (fun t => (hk t).2.1) fun t htm hzt =>
      hother t htm fun hzz => hy (hzt.symm.trans hzz)⟩

/-- A change of the hold record of one zone alone. -/
theorem TicketUnit.Agrees.mapHold (h : tk.Agrees elements slack owner) (z : Fin 8) (g : HoldRecord → HoldRecord)
    (ho : (g (tk.holds.get z)).Owned (owner z)) (hs : (g (tk.holds.get z)).Serves tk.table z) :
    TicketUnit.Agrees { tk with holds := tk.holds.modify z g } elements slack owner := by
  obtain ⟨ht, hz, hn, hg⟩ := h
  refine ⟨ht, fun y => ?_, hn, hg⟩
  rw [Table.get_modify]
  split
  · rename_i hy
    subst hy
    exact ⟨ho, hs⟩
  · exact hz y

/-- The grant time loads a timer in its range (R110, R113). -/
theorem TicketUnit.Agrees.grantMs_range (h : tk.Agrees elements slack owner) :
    1 ≤ 1000 * tk.grantTime ∧ 1000 * tk.grantTime ≤ 65535000 := by
  obtain ⟨-, -, -, hg⟩ := h
  omega

/-- Two tickets of one number are one ticket (R106). -/
theorem TicketUnit.Agrees.eq_of_number (h : tk.Agrees elements slack owner) {t u : Ticket} (ht : t ∈ tk.table)
    (hu : u ∈ tk.table) (hn : u.number = t.number) : u = t :=
  List.inj_on_of_nodup_map h.1.2.1 hu ht hn

end

/-! ## Reports, grants and gates -/

section
variable {k : Scope} {s t : State} {z : Fin 8} {slack : Nat → Prop}

theorem takeReport_requested (h : (s.tickets.holds.get z).state = .requested) : (s.takeReport z).tickets =
    { s.tickets with
      reports := s.tickets.reports.set z false
      holds := s.tickets.holds.modify z fun h => { h with grantA := false, grantB := false } } := by
  simp only [State.takeReport, h]
  rfl

theorem takeReport_held_nobody (h : (s.tickets.holds.get z).state = .held) (ho : s.owner z = .nobody) :
    (s.takeReport z).tickets = { s.tickets with
      reports := s.tickets.reports.set z false
      table := s.tickets.table.map fun t =>
        if t.zone = z then if t.state = .working then { t with accessSeen := false } else t else t } := by
  have ho' : State.owner { s with tickets.reports := s.tickets.reports.set z false } z = .nobody := ho
  simp only [State.takeReport, h, ho']
  rfl

theorem takeReport_held_owned (h : (s.tickets.holds.get z).state = .held) (ho : s.owner z ≠ .nobody) :
    (s.takeReport z).tickets = { s.tickets with
      reports := s.tickets.reports.set z false
      table := s.tickets.table.map fun t =>
        if t.zone = z then if t.state = .working then t.enterAwaiting s.grantMs else t else t
      holds := s.tickets.holds.modify z fun h =>
        { h with state := .requested, grantA := false, grantB := false } } := by
  have ho' : State.owner { s with tickets.reports := s.tickets.reports.set z false } z = s.owner z := rfl
  simp only [State.takeReport, h]
  rw [ho']
  cases hz : s.owner z with
  | nobody => exact absurd hz ho
  | _ => rfl

/-- A zone whose owner is some port. -/
theorem Owner.exists_has {o : Owner} (h : o ≠ .nobody) : ∃ side, o.has side = true := by
  cases o with
  | nobody => exact absurd rfl h
  | a => exact ⟨.a, rfl⟩
  | b => exact ⟨.b, rfl⟩
  | both => exact ⟨.a, rfl⟩

/-- The tickets of one zone and one state rewritten: WORKING ones (R16, R117, R120) or AWAITING ones (R116). -/
def Ticket.rewritten (z : Fin 8) (st : TicketState) (f : Ticket → Ticket) (t : Ticket) : Ticket :=
  if t.zone = z then if t.state = st then f t else t else t

theorem Ticket.rewritten_of_other {f : Ticket → Ticket} {st : TicketState} {t : Ticket} (h : t.zone ≠ z) :
    t.rewritten z st f = t := if_neg h

theorem Ticket.rewritten_kept {f : Ticket → Ticket} (hf : ∀ t : Ticket, t.Kept (f t)) (z : Fin 8) (st : TicketState)
    (t : Ticket) : t.Kept (t.rewritten z st f) := by
  unfold Ticket.rewritten
  split
  · split
    · exact hf t
    · exact t.kept_refl
  · exact t.kept_refl

theorem Ticket.rewritten_phased {f : Ticket → Ticket} {slack : Prop} {z : Fin 8} {st : TicketState} {t : Ticket}
    (hf : t.state = st → (f t).Phased slack) (ht : t.Phased slack) : (t.rewritten z st f).Phased slack := by
  unfold Ticket.rewritten
  split
  · split
    · exact hf ‹_›
    · exact ht
  · exact ht

/-- Access-seen of WORKING tickets set or cleared (R16, R120). -/
theorem TicketUnit.Agrees.withAccess {tk : TicketUnit} {elements : Table Element 64} {owner : Fin 8 → Owner}
    (h : tk.Agrees elements slack owner) (z : Fin 8) (b : Bool) :
    TicketUnit.Agrees { tk with
      table := tk.table.map (Ticket.rewritten z .working fun t => { t with accessSeen := b }) }
      elements slack owner := by
  refine h.mapTickets _ (Ticket.rewritten_kept (f := fun t => { t with accessSeen := b }) (fun t => t.kept_refl) z
    .working) (fun t _ ht => Ticket.rewritten_phased (fun hw => Ticket.withAccess_phased b ht hw) ht) fun t => ?_
  unfold Ticket.rewritten
  split
  · split <;> rfl
  · rfl

/-- The WORKING tickets of a zone taken back to AWAITING, with its hold record (R117, R120). -/
theorem TicketUnit.Agrees.dropWorking {tk : TicketUnit} {elements : Table Element 64} {owner : Fin 8 → Owner}
    (h : tk.Agrees elements slack owner) (z : Fin 8) (g : HoldRecord → HoldRecord)
    (hs : (tk.holds.get z).state = .held) (hd : (g (tk.holds.get z)).demand = (tk.holds.get z).demand)
    (hr : (g (tk.holds.get z)).state = .requested) (ho : (g (tk.holds.get z)).Owned (owner z)) :
    TicketUnit.Agrees { tk with
      table := tk.table.map (Ticket.rewritten z .working fun t => t.enterAwaiting (1000 * tk.grantTime))
      holds := tk.holds.modify z g } elements slack owner :=
  h.mapZone z _ g (Ticket.rewritten_kept (f := fun t => t.enterAwaiting (1000 * tk.grantTime)) (fun t => t.kept_refl) z
    .working) (fun t _ ht => Ticket.rewritten_phased (fun _ => t.enterAwaiting_phased _ h.grantMs_range) ht)
    (fun _ _ hne => congrArg Ticket.state (Ticket.rewritten_of_other hne)) ho ((h.2.1 z).2.dropped hs hd hr)

/-- The AWAITING tickets of a zone made WORKING, with its hold record (R116). -/
theorem TicketUnit.Agrees.makeHeld {tk : TicketUnit} {elements : Table Element 64} {owner : Fin 8 → Owner}
    (h : tk.Agrees elements slack owner) (z : Fin 8) (b : Bool) (g : HoldRecord → HoldRecord)
    (hs : (tk.holds.get z).state ≠ .free) (hd : (g (tk.holds.get z)).demand = (tk.holds.get z).demand)
    (hr : (g (tk.holds.get z)).state = .held) (ho : (g (tk.holds.get z)).Owned (owner z)) :
    TicketUnit.Agrees { tk with
      table := tk.table.map (Ticket.rewritten z .awaiting fun t => t.enterWorking b)
      holds := tk.holds.modify z g } elements slack owner :=
  h.mapZone z _ g (Ticket.rewritten_kept (f := fun t => t.enterWorking b) (fun t => t.kept_refl) z .awaiting)
    (fun t _ ht => Ticket.rewritten_phased (fun _ => t.enterWorking_phased _) ht)
    (fun _ _ hne => congrArg Ticket.state (Ticket.rewritten_of_other hne)) ho ((h.2.1 z).2.held hs hd hr)

theorem agrees_takeReport (h : s.tickets.Agrees s.elements slack s.owner) (z : Fin 8) :
    (s.takeReport z).tickets.Agrees s.elements slack s.owner := by
  have hz := h.2.1 z
  cases hst : (s.tickets.holds.get z).state with
  | free =>
    rw [takeReport_free hst]
    exact h
  | requested =>
    rw [takeReport_requested hst]
    obtain ⟨side, hs, -⟩ := hz.1.2.2.2 hst
    have ho : (s.tickets.holds.get z) = { s.tickets.holds.get z with state := .requested } := by rw [← hst]
    refine h.mapHold z _ ?_ hz.2
    rw [ho]
    exact HoldRecord.owned_cleared hs
  | held =>
    by_cases ho : s.owner z = .nobody
    · rw [takeReport_held_nobody hst ho]
      exact h.withAccess z false
    · rw [takeReport_held_owned hst ho]
      obtain ⟨side, hs⟩ := Owner.exists_has ho
      exact h.dropWorking z _ hst rfl rfl (HoldRecord.owned_cleared hs)

/-- A gate that becomes active sets access-seen on WORKING tickets at most (R16). -/
theorem agrees_gateOpened (h : s.tickets.Agrees s.elements slack s.owner) (z : Fin 8) :
    (s.gateOpened z).tickets.Agrees s.elements slack s.owner := by
  unfold State.gateOpened
  split
  · exact h.withAccess z true
  · exact h

theorem recordGrant_tickets (s : State) (z : Fin 8) (side : Side) : (s.recordGrant z side).tickets =
    if (s.owner z).allGranted ((s.tickets.holds.get z).withGrant side true) = true then { s.tickets with
      table := s.tickets.table.map fun t =>
        if t.zone = z then if t.state = .awaiting then t.enterWorking (s.guardOpen z) else t else t
      holds := s.tickets.holds.modify z fun h => { h.withGrant side true with state := .held } }
    else { s.tickets with holds := s.tickets.holds.modify z fun h => h.withGrant side true } := by
  have ho : State.owner (s.mapHold z fun h => h.withGrant side true) z = s.owner z := rfl
  unfold State.recordGrant
  dsimp only
  rw [State.mapHold_tickets, ho, Table.get_modify_same]
  split
  · simp only [State.makeHeld, State.mapZoneTickets, State.mapHold, Table.modify_modify]
    rfl
  · rfl

theorem agrees_recordGrant (h : s.tickets.Agrees s.elements slack s.owner) {side : Side}
    (ho : (s.owner z).has side = true) (hf : (s.tickets.holds.get z).state ≠ .free) :
    (s.recordGrant z side).tickets.Agrees s.elements slack s.owner := by
  obtain ⟨howned, hserves⟩ := h.2.1 z
  obtain ⟨hstate, hdemand⟩ := (s.tickets.holds.get z).withGrant_state side true
  rw [recordGrant_tickets]
  split
  · rename_i hall
    exact h.makeHeld z _ _ hf hdemand rfl (howned.completed ho hall)
  · rename_i hall
    refine h.mapHold z _ (howned.recorded ho hf hall) ?_
    unfold HoldRecord.Serves
    rwa [hstate, hdemand]

theorem withdrawGrant_tickets (s : State) (z : Fin 8) (side : Side) : (s.withdrawGrant z side).tickets =
    if (s.tickets.holds.get z).state = .held then { s.tickets with
      table := s.tickets.table.map fun t =>
        if t.zone = z then if t.state = .working then t.enterAwaiting s.grantMs else t else t
      holds := s.tickets.holds.modify z fun h => { h.withGrant side false with state := .requested } }
    else { s.tickets with holds := s.tickets.holds.modify z fun h => h.withGrant side false } := by
  unfold State.withdrawGrant
  dsimp only
  split
  · simp only [State.dropWorking, State.mapZoneTickets, State.mapHold, Table.modify_modify]
    rfl
  · rfl

theorem agrees_withdrawGrant (h : s.tickets.Agrees s.elements slack s.owner) {side : Side}
    (ho : (s.owner z).has side = true) (hg : (s.tickets.holds.get z).grant side = true) :
    (s.withdrawGrant z side).tickets.Agrees s.elements slack s.owner := by
  obtain ⟨howned, hserves⟩ := h.2.1 z
  obtain ⟨hstate, hdemand⟩ := (s.tickets.holds.get z).withGrant_state side false
  have hreq : HoldRecord.Owned { (s.tickets.holds.get z).withGrant side false with state := .requested } (s.owner z) :=
    HoldRecord.owned_requested ho (HoldRecord.grant_withdrawn _ _) howned.grants_withdrawn
  rw [withdrawGrant_tickets]
  split
  · rename_i hheld
    exact h.dropWorking z _ hheld hdemand rfl hreq
  · rename_i hheld
    have hr : (s.tickets.holds.get z).state = .requested := by
      cases hst : (s.tickets.holds.get z).state with
      | free => simp [howned.1 hst side] at hg
      | requested => rfl
      | held => exact absurd hst hheld
    refine h.mapHold z _ ?_ ?_
    · have he : (s.tickets.holds.get z).withGrant side false =
          { (s.tickets.holds.get z).withGrant side false with state := .requested } := by rw [← hr, ← hstate]
      rwa [he]
    · unfold HoldRecord.Serves
      rwa [hstate, hdemand]

/-! ## Starting and leaving -/

theorem agrees_started (h : s.tickets.Agrees s.elements slack s.owner) {n : Nat} {t : Ticket}
    (ht : s.ticket? n = some t) (ha : t.active = false) :
    TicketUnit.Agrees ((s.mapHold t.zone fun h => { h with
          state := startedHold (s.tickets.holds.get t.zone).state (s.owner t.zone)
          demand := h.demand + 1 }).mapTicket t.number fun u =>
        u.started (startedHold (s.tickets.holds.get t.zone).state (s.owner t.zone)) (s.guardOpen t.zone)
          s.grantMs).tickets s.elements slack s.owner := by
  obtain ⟨howned, hserves⟩ := h.2.1 t.zone
  obtain ⟨-, l₁, l₂, htable, hmap, -⟩ := ticket?_split ht h.1.2.1
  have hmem : t ∈ s.tickets.table := List.mem_of_find?_eq_some ht
  refine h.mapZone t.zone _ _ (fun u => ?_) (fun u _ hu => ?_) (fun u hum hne => ?_) (howned.started _) ?_
  · split
    · exact u.started_kept _ _ _
    · exact u.kept_refl
  · split
    · exact u.started_phased _ _ h.grantMs_range
    · exact hu
  · rw [if_neg fun hn => hne (congrArg Ticket.zone (h.eq_of_number hmem hum hn))]
  · rw [hmap]
    rw [htable] at hserves
    exact ((HoldRecord.serves_split (.inr ha)).mp hserves).started rfl

/-- Tickets that leave, or stop counting, with the hold record of their zone lowered (R118, R119, R126). -/
theorem holds_lowered (h : s.tickets.Agrees s.elements slack s.owner) {l₁ l₂ : List Ticket} {t : Ticket}
    (htable : s.tickets.table = l₁ ++ t :: l₂) (ha : t.active = true) (y : Fin 8) :
    ((s.tickets.holds.modify t.zone HoldRecord.lowered).get y).Owned (s.owner y) ∧
      ((s.tickets.holds.modify t.zone HoldRecord.lowered).get y).Serves (l₁ ++ l₂) y := by
  obtain ⟨howned, hserves⟩ := h.2.1 y
  rw [htable] at hserves
  rw [Table.get_modify]
  split
  · rename_i hy
    subst hy
    exact ⟨howned.lowered, hserves.lowered rfl ha⟩
  · rename_i hy
    exact ⟨howned, (HoldRecord.serves_split (.inl (Ne.symm hy))).mp hserves⟩

/-- What a change of the Ticket Unit makes of it agrees with records and owners as before. -/
theorem TicketChange.agrees {tk : TicketUnit} (c : TicketChange k s tk)
    (h : s.tickets.Agrees s.elements slack s.owner) : tk.Agrees s.elements slack s.owner := by
  have hagrees := h
  obtain ⟨htable, hholds, hnext, hgrant⟩ := h
  cases c with
  | reports r => exact hagrees
  | grantTime v hv => exact ⟨htable, hholds, hnext, hv⟩
  | reported z => exact agrees_takeReport hagrees z
  | gate z => exact agrees_gateOpened hagrees z
  | granted z side ho hf => exact agrees_recordGrant hagrees ho hf
  | withdrawn z side ho hg => exact agrees_withdrawGrant hagrees ho hg
  | opened e hl hu hb =>
    obtain ⟨j, -, hj, -, hfree⟩ := nextNumber_free hnext htable.1
    refine ⟨htable.opened hl (nextNumber_range hnext) (hj ▸ hfree) hu (not_mem_of_not_onTicket hb), fun z => ?_,
      numberAfter_range (nextNumber_range hnext), hgrant⟩
    refine ⟨(hholds z).1, (HoldRecord.serves_split (.inr rfl)).mpr ?_⟩
    rw [List.append_nil]
    exact (hholds z).2
  | itemAdded n t ht e hp hu hb hz hl =>
    obtain ⟨-, l₁, l₂, hsplit, hmap, -⟩ := ticket?_split ht htable.2.1
    have hbusy := not_mem_of_not_onTicket hb
    rw [hsplit] at htable hholds hbusy
    have hidle : t.active = false := Ticket.active_eq_false_iff.mpr (by simp [hp])
    simp only [State.mapTicket_tickets, hmap]
    refine ⟨htable.itemAdded hu hz hl hbusy, fun z => ⟨(hholds z).1, ?_⟩, hnext, hgrant⟩
    have hidle' : Ticket.active { t with items := t.items ++ [⟨e, .pending⟩] } = false := hidle
    exact (HoldRecord.serves_split (.inr hidle')).mpr ((HoldRecord.serves_split (.inr hidle)).mp (hholds z).2)
  | started n t ht ha _ => exact agrees_started hagrees ht ha
  | resolved n e o =>
    refine hagrees.mapTickets _ (fun u => ?_) (fun u _ hu => ?_) fun u => ?_
    · split
      · exact u.resolved_kept e o
      · exact u.kept_refl
    · split <;> exact hu
    · split <;> rfl
  | closed n t ht ha =>
    obtain ⟨-, l₁, l₂, hsplit, -, hfilter⟩ := ticket?_split ht htable.2.1
    refine ⟨htable.sublist List.filter_sublist, fun z => ⟨(hholds z).1, ?_⟩, hnext, hgrant⟩
    simp only [hfilter]
    exact (HoldRecord.serves_split (.inr ha)).mp (hsplit ▸ (hholds z).2)
  | removed n t ht ha =>
    obtain ⟨-, l₁, l₂, hsplit, -, hfilter⟩ := ticket?_split ht htable.2.1
    refine ⟨htable.sublist List.filter_sublist, fun z => ?_, hnext, hgrant⟩
    simp only [hfilter]
    exact holds_lowered hagrees hsplit ha z
  | stalled n t ht ha =>
    obtain ⟨-, l₁, l₂, hsplit, hmap, -⟩ := ticket?_split ht htable.2.1
    refine ⟨htable.map _ (fun u => ?_) (fun u _ hu => ?_), fun z => ?_, hnext, hgrant⟩
    · split <;> exact u.kept_refl
    · split
      · exact u.enterStalled_phased _
      · exact hu
    · simp only [hmap]
      obtain ⟨howned, hserves⟩ := holds_lowered hagrees hsplit (Ticket.active_iff.mpr (.inl ha)) z
      exact ⟨howned, (HoldRecord.serves_split (.inr rfl)).mpr hserves⟩

/-- A change of the Ticket Unit of a parked device leaves its zones FREE (R131, R159). -/
theorem TicketChange.holds_free {tk : TicketUnit} (c : TicketChange k s tk) (hk : k.woken)
    (h : s.tickets.Agrees s.elements slack s.owner) (hp : s.ctl.op = .parked)
    (hf : ∀ z, (s.tickets.holds.get z).state = .free) (y : Fin 8) : (tk.holds.get y).state = .free := by
  have hidle : ∀ {n : Nat} {t : Ticket}, s.ticket? n = some t → t.active ≠ true := fun ht ha =>
    (h.2.1 _).2.ne_free (List.mem_of_find?_eq_some ht) rfl ha (hf _)
  cases c with
  | reported z =>
    rw [takeReport_free (hf z)]
    exact hf y
  | gate z =>
    unfold State.gateOpened
    split <;> exact hf y
  | granted z side _ hne => exact absurd (hf z) hne
  | withdrawn z side _ hg => simp [(h.2.1 z).1.1 (hf z) side] at hg
  | started n t _ _ hw => exact absurd hp (hw hk)
  | removed n t ht ha => exact absurd ha (hidle ht)
  | stalled n t ht ha => exact absurd (Ticket.active_iff.mpr (.inl ha)) (hidle ht)
  | _ => exact hf y

end

end Sys2Proof.Machine

/-! PROOF. Tickets, demands, hold records, grants and owners over every step (R106 to R108, R118, R132), and what reset
is (R169). -/

namespace Sys2Proof.Machine

section
variable {k : Scope} {s t : State} {late : List Nat}

/-! ## Records that are items -/

theorem derivedState_ne_idle (wear limit margin : Nat) : derivedState wear limit margin ≠ .idle := by
  unfold derivedState
  split
  · exact fun h => ElementState.noConfusion h
  · split <;> exact fun h => ElementState.noConfusion h

/-- A record that is in use by its derived state. -/
theorem Element.inUse_of_derived {e : Element} {wear limit margin : Nat}
    (h : e.state = derivedState wear limit margin) : e.inUse = true :=
  bne_iff_ne.mpr (h ▸ derivedState_ne_idle _ _ _)

/-- A move leaves an item of a ticket in its zone and in use (R65, R67, R68). -/
theorem Element.Change.item_kept {i : Fin 64} {e e' : Element} (c : Element.Change k i true e e') :
    e'.zone = e.zone ∧ (e.inUse = true → e'.inUse = true) := by
  cases c with
  | same => exact ⟨rfl, id⟩
  | configured zone _ _ _ _ _ _ _ _ hz => exact ⟨hz rfl, id⟩
  | limited => exact ⟨rfl, id⟩
  | relimited => exact ⟨rfl, fun _ => inUse_of_derived rfl⟩
  | enabled => exact ⟨rfl, fun _ => inUse_of_derived rfl⟩
  | accepted => exact ⟨rfl, fun _ => inUse_of_derived rfl⟩
  | disabled h => exact Bool.noConfusion h
  | preset => exact ⟨rfl, id⟩
  | renewed => exact ⟨rfl, fun _ => rfl⟩
  | accrued => exact ⟨rfl, fun _ => inUse_of_derived rfl⟩
  | passed shift =>
    obtain ⟨-, hs, -, hz⟩ := e.passed_kept shift
    exact ⟨hz, fun hu => by rwa [inUse, hs]⟩

theorem onTicket_of_mem {u : Ticket} {e : Fin 64} (hu : u ∈ s.tickets.table) (he : e ∈ u.items.map Item.element) :
    s.onTicket e = true := by
  obtain ⟨i, hi, rfl⟩ := List.mem_map.mp he
  exact List.any_eq_true.mpr ⟨u, hu, List.any_eq_true.mpr ⟨i, hi, decide_eq_true rfl⟩⟩

/-- Records that a move may have changed, and others, keep the Ticket Unit in agreement. -/
theorem TicketUnit.Agrees.of_change {elements : Table Element 64} {slack : Nat → Prop} {owner : Fin 8 → Owner}
    (h : s.tickets.Agrees s.elements slack owner)
    (hc : ∀ i, Element.Change k i (s.onTicket i) (s.elements.get i) (elements.get i)) :
    s.tickets.Agrees elements slack owner := by
  obtain ⟨ht, hrest⟩ := h
  refine ⟨ht.of_elements fun u hu e he => ?_, hrest⟩
  have hchange := hc e
  rw [onTicket_of_mem hu he] at hchange
  exact hchange.item_kept

/-- One record replaced. -/
theorem Element.Change.set {n : Fin 64} {e : Element}
    (h : Element.Change k n (s.onTicket n) (s.elements.get n) e) (i : Fin 64) :
    Element.Change k i (s.onTicket i) (s.elements.get i) ((s.elements.set n e).get i) := by
  rw [Table.get_set]
  split
  · rename_i hi
    exact hi ▸ h
  · exact .same

/-! ## The state -/

/-- The Ticket Unit agrees with the records and the owners, but for the timers of the tickets in `late`, which may
stand at 0; a parked device has only FREE zones (R106 to R110, R131). -/
def State.TicketsHeld (s : State) (late : List Nat) : Prop :=
  s.tickets.Agrees s.elements (fun n => s.ctl.op = .retained ∨ n ∈ late) s.owner ∧
    (s.ctl.op = .parked → ∀ z, (s.tickets.holds.get z).state = .free)

theorem HoldRecord.owned_iff (h : HoldRecord) (o : Owner) : h.Owned o ↔
    (h.state = .free → h.grantA = false ∧ h.grantB = false) ∧
    (h.grantA = true → o = .a ∨ o = .both) ∧ (h.grantB = true → o = .b ∨ o = .both) ∧
    (h.state = .held → (o = .a ∨ o = .both → h.grantA = true) ∧ (o = .b ∨ o = .both → h.grantB = true)) ∧
    (h.state = .requested → ((o = .a ∨ o = .both) ∧ h.grantA = false) ∨ ((o = .b ∨ o = .both) ∧ h.grantB = false)) := by
  have hside : ∀ {P : Side → Prop}, (∀ side, P side) ↔ P .a ∧ P .b :=
    ⟨fun h => ⟨h .a, h .b⟩, fun h side => by cases side; exacts [h.1, h.2]⟩
  have hex : ∀ {P : Side → Prop}, (∃ side, P side) ↔ P .a ∨ P .b :=
    ⟨fun ⟨side, h⟩ => by cases side; exacts [.inl h, .inr h], fun h => h.elim (fun h => ⟨_, h⟩) fun h => ⟨_, h⟩⟩
  simp only [Owned, hside, hex, Owner.has_a_iff, Owner.has_b_iff, grant, and_assoc]

/-- The statement's form of the same. -/
theorem ticketsAgree_iff (s : State) : s.TicketsAgree ↔ s.TicketsHeld [] := by
  have hzone : ∀ z, (s.HoldAgrees z ∧ ∀ u ∈ s.tickets.table, u.zone = z →
      (u.state = .working → (s.tickets.holds.get z).state = .held) ∧
        (u.state = .awaiting → (s.tickets.holds.get z).state = .requested)) ↔
      (s.tickets.holds.get z).Owned (s.owner z) ∧ (s.tickets.holds.get z).Serves s.tickets.table z := by
    intro z
    rw [HoldRecord.owned_iff]
    exact ⟨fun ⟨⟨hd, hf, hrest⟩, ht⟩ => ⟨hrest, hd, hf, ht⟩, fun ⟨hrest, hd, hf, ht⟩ => ⟨⟨hd, hf, hrest⟩, ht⟩⟩
  constructor
  · rintro ⟨hl, hn, he, ht, hh, hnext, hgrant, hparked⟩
    refine ⟨⟨⟨hl, hn, he, fun u hu => ?_⟩, fun z => (hzone z).mp ⟨hh z, fun u hu hz => ?_⟩, hnext, hgrant⟩, hparked⟩
    · obtain ⟨⟨hnum, hitems, htimer, hzero, hseen, hever⟩, hrecords, -, -, hload⟩ := ht u hu
      refine ⟨hnum, hitems, ⟨htimer, hzero, hseen, hever, fun ha => ?_⟩, fun e hem => ?_⟩
      · by_cases hr : s.ctl.op = .retained
        · exact .inl (.inl hr)
        · exact .inr (hload ha hr)
      · obtain ⟨i, hi, rfl⟩ := List.mem_map.mp hem
        exact hrecords i hi
    · obtain ⟨-, -, hw, ha, -⟩ := ht u hu
      exact hz ▸ ⟨hw, ha⟩
  · rintro ⟨⟨⟨hl, hn, he, ht⟩, hh, hnext, hgrant⟩, hparked⟩
    refine ⟨hl, hn, he, fun u hu => ?_, fun z => ((hzone z).mpr (hh z)).1, hnext, hgrant, hparked⟩
    obtain ⟨hnum, hitems, ⟨htimer, hzero, hseen, hever, hload⟩, hrecords⟩ := ht u hu
    obtain ⟨hw, ha⟩ := ((hzone u.zone).mpr (hh u.zone)).2 u hu rfl
    refine ⟨⟨hnum, hitems, htimer, hzero, hseen, hever⟩, fun i hi => hrecords _ (List.mem_map_of_mem hi), hw, ha,
      fun haw hr => (hload haw).resolve_left ?_⟩
    rintro (hret | hlate)
    · exact hr hret
    · exact List.not_mem_nil hlate

/-- A weaker claim about the timers. -/
theorem TicketUnit.Agrees.mono {tk : TicketUnit} {elements : Table Element 64} {slack slack' : Nat → Prop}
    {owner : Fin 8 → Owner} (h : tk.Agrees elements slack owner) (hs : ∀ n, slack n → slack' n) :
    tk.Agrees elements slack' owner := by
  obtain ⟨⟨hl, hn, he, ht⟩, hrest⟩ := h
  refine ⟨⟨hl, hn, he, fun u hu => ?_⟩, hrest⟩
  obtain ⟨hnum, hitems, ⟨htimer, hzero, hseen, hever, hload⟩, hrecords⟩ := ht u hu
  exact ⟨hnum, hitems, ⟨htimer, hzero, hseen, hever, fun ha => (hload ha).imp_left (hs _)⟩, hrecords⟩

/-- A change outside tickets, records and owners, to an operating state that lets fewer timers stand at 0 in no case. -/
theorem ticketsHeld_of_running (h : s.TicketsHeld late) (hr : s.ctl.op ≠ .retained) (ht : t.tickets = s.tickets)
    (he : t.elements = s.elements) (ho : t.owner = s.owner)
    (hp : t.ctl.op = .parked → ∀ z, (s.tickets.holds.get z).state = .free) : t.TicketsHeld late := by
  obtain ⟨ha, -⟩ := h
  unfold State.TicketsHeld
  rw [ht, he, ho]
  exact ⟨ha.mono fun n hn => .inr (hn.resolve_left hr), hp⟩

/-- The owners are in the load book. -/
theorem owner_of_book (h : t.book = s.book) : t.owner = s.owner := by
  funext z
  simp only [State.owner, h]

/-- A change of records that keeps the items, with the rest of what the Ticket Unit agrees with as it stood. -/
theorem ticketsHeld_of_elements (ha : s.tickets.Agrees t.elements (fun n => s.ctl.op = .retained ∨ n ∈ late) s.owner)
    (hparked : s.ctl.op = .parked → ∀ z, (s.tickets.holds.get z).state = .free)
    (ht : t.tickets = { s.tickets with reports := t.tickets.reports }) (ho : t.owner = s.owner)
    (hc : t.ctl = s.ctl) : t.TicketsHeld late := by
  unfold State.TicketsHeld
  rw [ht, ho, hc]
  exact ⟨ha, hparked⟩

/-- The accrual of a close hands motion reports, and touches nothing else of the Ticket Unit (R81). -/
theorem accrueAll_tickets (s : State) :
    s.accrueAll.tickets = { s.tickets with reports := s.accrueAll.tickets.reports } := by
  simp [State.accrueAll]

theorem reset_ticketsHeld (late : List Nat) : State.reset.TicketsHeld late := by
  have hholds : ∀ z, State.reset.tickets.holds.get z = .cold := fun z => Table.get_ofFn _ z
  refine ⟨⟨⟨Nat.zero_le _, List.nodup_nil, List.nodup_nil, fun _ h => absurd h List.not_mem_nil⟩, fun z => ?_,
    by decide, by decide⟩, fun _ z => by rw [hholds]; rfl⟩
  rw [hholds]
  exact ⟨HoldRecord.cold_owned _, rfl, ⟨fun _ => rfl, fun _ => rfl⟩, fun _ h => absurd h List.not_mem_nil⟩

/-- After a start every hold record is FREE and no ticket counts toward a demand (R132). -/
theorem demoteTickets_agrees {slack slack' : Nat → Prop} {owner : Fin 8 → Owner}
    (h : s.tickets.Agrees s.elements slack owner) : s.demoteTickets.tickets.Agrees s.elements slack' owner := by
  obtain ⟨ht, -, hn, hg⟩ := h
  refine ⟨ht.map _ (fun u => ?_) (fun u _ hu => ?_), fun z => ?_, hn, hg⟩
  · split <;> exact u.kept_refl
  · split
    · exact u.enterStalled_phased _
    · rename_i hidle
      obtain ⟨htimer, hzero, hseen, hever, -⟩ := hu
      exact ⟨htimer, hzero, hseen, hever, fun ha => absurd (Ticket.active_iff.mpr (.inl ha)) hidle⟩
  · have hidle : ∀ u ∈ s.demoteTickets.tickets.table, u.active = false := by
      intro u hu
      obtain ⟨v, -, rfl⟩ := List.mem_map.mp hu
      split
      · rfl
      · rename_i hidle
        exact Bool.eq_false_iff.mpr hidle
    have hcount : activeCount s.demoteTickets.tickets.table z = 0 :=
      List.countP_eq_zero.mpr fun u hu => by simp [hidle u hu]
    have hhold : s.demoteTickets.tickets.holds.get z = .cold := Table.get_ofFn _ z
    rw [hhold]
    refine ⟨HoldRecord.cold_owned _, hcount.symm, ⟨fun _ => hcount, fun _ => rfl⟩, fun u hu _ => ?_⟩
    obtain ⟨hna, hnw⟩ := Ticket.active_eq_false_iff.mp (hidle u hu)
    exact ⟨fun hw => absurd hw hnw, fun ha => absurd ha hna⟩

/-- Every move but the count of the grant timers keeps the Ticket Unit in agreement. -/
theorem Move.ticketsHeld (m : Move k s t) (hw : k.woken) (hk : ¬k.ticking) (h : s.TicketsHeld late) :
    t.TicketsHeld late := by
  have hs := h
  obtain ⟨ha, hparked⟩ := h
  cases m with
  | zone z b ho _ =>
    obtain ⟨ht, hholds, hrest⟩ := ha
    refine ⟨⟨ht, fun y => ⟨?_, (hholds y).2⟩, hrest⟩, hparked⟩
    change (s.tickets.holds.get y).Owned ((s.book.zones.set z b).get y).owner
    rw [Table.get_set]
    split
    · rename_i hy
      subst hy
      obtain ho | ho := ho
      · rw [ho]
        exact (hholds y).1
      · exact (hholds y).1.of_free ho
    · exact (hholds y).1
  | horizon v _ =>
    exact ticketsHeld_of_elements (by simpa using ha) hparked (by simp) (owner_of_book (by simp)) (by simp)
  | element n e _ hc _ _ => exact ⟨ha.of_change hc.set, hparked⟩
  | restated n e _ hc =>
    refine ticketsHeld_of_elements ?_ hparked (by simp [State.restateElement])
      (owner_of_book (by simp [State.restateElement])) (by simp [State.restateElement])
    simpa [State.restateElement] using ha.of_change hc.set
  | closed _ =>
    refine ticketsHeld_of_elements ?_ hparked ?_ ?_
      (by simp [State.countClose, State.restartCounters, State.countDownLoads])
    · simpa [State.countClose, State.restartCounters, State.countDownLoads] using
        ha.of_change fun i => accrueAll_change k s i (s.onTicket i)
    · simpa [State.countClose, State.restartCounters, State.countDownLoads] using accrueAll_tickets s
    · funext z
      simp [State.owner, State.countClose, State.restartCounters, State.countDownLoads]
  | windowEnded _ =>
    refine ticketsHeld_of_elements ?_ hparked ?_ (owner_of_book ?_) ?_
    · refine ha.of_change (k := k) fun i => ?_
      simpa [State.endWindow, State.appendHistory, State.loadWindow, State.passElements] using .passed s.plan.shift
    all_goals simp [State.endWindow, State.appendHistory, State.loadWindow, State.passElements]
  | tickets tk hr hc => exact ⟨hc.agrees ha, fun hp => hc.holds_free hw ha hp (hparked hp)⟩
  | ticked ht => exact absurd ht hk
  | brought op hr ho =>
    refine ticketsHeld_of_running hs hr rfl rfl rfl fun hp => ?_
    obtain rfl | rfl := ho <;> cases hp
  | parked hr _ _ _ hf => exact ticketsHeld_of_running hs hr rfl rfl rfl fun _ => hf
  | keep below =>
    simp only [State.TicketsHeld, fed_op]
    exact hs
  | monitor _ main rstn =>
    simp only [State.TicketsHeld, fed_op]
    exact hs
  | retained _ =>
    refine ⟨ha.mapTickets (fun u => { u with timer := 0 }) (fun u => u.kept_refl) (fun u _ hu => ?_) fun _ => rfl,
      fun hp => OpState.noConfusion hp⟩
    obtain ⟨-, -, hseen, hever, -⟩ := hu
    exact ⟨Nat.zero_le _, fun _ => rfl, hseen, hever, fun _ => .inl (.inl rfl)⟩
  | warm kind _ =>
    have hexamined : s.tickets.Agrees s.examineElements.elements
        (fun n => s.ctl.op = .retained ∨ n ∈ late) s.owner := by
      refine ⟨ha.1.of_elements fun u hu e he => ?_, ha.2⟩
      simp only [State.examineElements, Table.get_mapIdx]
      obtain hx | ⟨hx, hu, -⟩ := Element.examined_eq (s.elements.get e) e
      · rw [hx]
        exact ⟨rfl, id⟩
      · rw [hx]
        exact ⟨rfl, fun _ => rfl⟩
    have howner : (s.warmStart kind).owner = s.owner := by
      funext z
      simp [State.owner, State.warmStart, State.startCommon, State.restartScan, State.lapseReports,
        State.demoteTickets, State.examineElements]
    refine ⟨howner ▸ demoteTickets_agrees (s := s.examineElements) hexamined, fun hp => OpState.noConfusion hp⟩
  | cold _ _ =>
    obtain ⟨-, -⟩ := hs
    have hreset := reset_ticketsHeld late
    obtain ⟨⟨⟨-, hn, he, ht⟩, hholds, hrest⟩, -⟩ := hreset
    exact ⟨⟨⟨Nat.zero_le _, hn, he, fun _ h => absurd h List.not_mem_nil⟩, hholds, hrest⟩,
      fun hp => OpState.noConfusion hp⟩
  | disturbed _ n d hr _ =>
    refine ⟨⟨ha.1.of_elements fun u _ e _ => ?_, ha.2⟩, hparked⟩
    simp only [Table.get_set]
    split
    · rename_i hi
      subst hi
      exact ⟨rfl, id⟩
    · exact ⟨rfl, id⟩
  | _ => exact hs

/-! ## The grant timers -/

/-- A millisecond counted leaves at 0 only the timers of tickets that expire in it (R118). -/
theorem countGrants_ticketsHeld (h : s.TicketsHeld []) : s.countGrants.TicketsHeld s.countGrants.expired := by
  obtain ⟨ha, hparked⟩ := h
  have hexpired : ∀ u ∈ s.countGrants.tickets.table, u.state = .awaiting → u.timer = 0 →
      u.number ∈ s.countGrants.expired := fun u hu haw hz =>
    List.mem_map_of_mem (List.mem_filter.mpr ⟨hu, by simp [haw, hz]⟩)
  refine ⟨ha.mapTickets _ (fun u => ?_) (fun u hu hp => ?_) fun u => ?_, hparked⟩
  · split <;> exact u.kept_refl
  · have hmem : (if u.state = .awaiting then { u with timer := u.timer - 1 } else u) ∈ s.countGrants.tickets.table :=
      List.mem_map_of_mem hu
    obtain ⟨htimer, hzero, hseen, hever, hload⟩ := hp
    by_cases haw : u.state = .awaiting
    · rw [if_pos haw] at hmem ⊢
      refine ⟨(Nat.sub_le _ _).trans htimer, fun hne => absurd haw hne, hseen, hever, fun _ => ?_⟩
      obtain hz | hz := Nat.eq_zero_or_pos (u.timer - 1)
      · exact .inl (.inr (hexpired { u with timer := u.timer - 1 } hmem haw hz))
      · exact .inr hz
    · rw [if_neg haw]
      exact ⟨htimer, hzero, hseen, hever, fun hw => absurd hw haw⟩
  · split <;> rfl

/-- What an expiry takes: the ticket stalled and its zone's demand lowered, then moves of what follows (R118, R119). -/
theorem expireNumber_cases (n : Nat) : (∃ u, s.ticket? n = some u ∧ u.state = .awaiting ∧ s.running = true ∧
    Moves k { s with tickets := { s.tickets with
      table := s.tickets.table.map fun v => if v.number = u.number then v.enterStalled else v
      holds := s.tickets.holds.modify u.zone HoldRecord.lowered } } (s.expireNumber n)) ∨
    ((∀ u, s.ticket? n = some u → s.running = true → u.state ≠ .awaiting) ∧ s.expireNumber n = s) := by
  unfold State.expireNumber
  split
  · rename_i u hu
    split
    · rename_i hc
      simp only [Bool.and_eq_true, decide_eq_true_eq] at hc
      obtain ⟨hr, ha⟩ := hc
      refine .inl ⟨u, hu, ha, hr, moves_lowerDemand ?_⟩
      rw [raiseOwners_eq]
      exact .single (.notices _ _)
    · rename_i hc
      refine .inr ⟨fun v hv hr ha => hc ?_, rfl⟩
      obtain rfl : u = v := Option.some.inj (hu.symm.trans hv)
      simp [hr, ha]
  · rename_i hnone
    exact .inr ⟨fun v hv => by simp [hnone] at hv, rfl⟩

/-- A timer that may stand at 0 no more, if the ticket of that number is not AWAITING in a device that runs. -/
theorem TicketUnit.Agrees.drop_late {n : Nat} {tk : TicketUnit} {op : OpState} {elements : Table Element 64}
    {owner : Fin 8 → Owner} (h : tk.Agrees elements (fun q => op = .retained ∨ q ∈ n :: late) owner)
    (hn : op ≠ .retained → ∀ u ∈ tk.table, u.number = n → u.state ≠ .awaiting) :
    tk.Agrees elements (fun q => op = .retained ∨ q ∈ late) owner := by
  obtain ⟨⟨hl, hnodup, he, ht⟩, hrest⟩ := h
  refine ⟨⟨hl, hnodup, he, fun u hu => ?_⟩, hrest⟩
  obtain ⟨hnum, hitems, ⟨htimer, hzero, hseen, hever, hload⟩, hrecords⟩ := ht u hu
  refine ⟨hnum, hitems, ⟨htimer, hzero, hseen, hever, fun ha => ?_⟩, hrecords⟩
  by_cases hr : op = .retained
  · exact .inl (.inl hr)
  · refine (hload ha).imp_left fun hs => .inr ?_
    exact (List.mem_cons.mp (hs.resolve_left hr)).resolve_left fun hun => hn hr u hu hun ha

/-- An expiry leaves no timer of its ticket at 0 (R118). -/
theorem expireNumber_ticketsHeld {n : Nat} (h : s.TicketsHeld (n :: late)) : (s.expireNumber n).TicketsHeld late := by
  obtain ⟨ha, hparked⟩ := h
  obtain ⟨u, hu, haw, hr, hm⟩ | ⟨hnone, heq⟩ := expireNumber_cases (k := ⟨True, False, False⟩) (s := s) n
  · refine Moves.keep (fun m => m.ticketsHeld trivial not_false) hm ?_
    have hop := ne_retained_of_running hr
    have hnumber : u.number = n := (ticket?_split hu ha.1.2.1).1
    have hstalled := TicketChange.agrees (k := ⟨True, False, False⟩) (.stalled n u hu haw) ha
    refine ⟨hstalled.drop_late fun _ v hv hvn => ?_, fun hp => ?_⟩
    · obtain ⟨w, -, rfl⟩ := List.mem_map.mp hv
      split at hvn
      · rw [if_pos ‹_›]
        exact fun h => TicketState.noConfusion h
      · rename_i hw
        exact absurd (hvn.trans hnumber.symm) hw
    · have hp : s.ctl.op = .parked := hp
      simp [State.running, hp] at hr
  · rw [heq]
    refine ⟨ha.drop_late fun hop v hv hvn haw => ?_, hparked⟩
    by_cases hr : s.running = true
    · cases hf : s.ticket? n with
      | none =>
        have := List.find?_eq_none.mp hf v hv
        simp [hvn] at this
      | some u =>
        have hun : u.number = n := (ticket?_split hf ha.1.2.1).1
        obtain rfl := ha.eq_of_number hv (List.mem_of_find?_eq_some hf) (hun.trans hvn.symm)
        exact hnone u hf hr haw
    · have hp : s.ctl.op = .parked := by
        cases hc : s.ctl.op with
        | parked => rfl
        | retained => exact absurd hc hop
        | _ => simp [State.running, hc] at hr
      exact (ha.2.1 v.zone).2.ne_free hv rfl (Ticket.active_iff.mpr (.inl haw)) (hparked hp _)

theorem foldl_expireNumber_ticketsHeld (late : List Nat) {s : State} (h : s.TicketsHeld late) :
    (late.foldl State.expireNumber s).TicketsHeld [] := by
  induction late generalizing s with
  | nil => exact h
  | cons n late ih => exact ih (expireNumber_ticketsHeld h)

theorem tickGrants_ticketsHeld (h : s.TicketsHeld []) : s.tickGrants.TicketsHeld [] := by
  unfold State.tickGrants
  split
  · exact foldl_expireNumber_ticketsHeld _ (countGrants_ticketsHeld h)
  · exact h

end

/-! ## The statements -/

/-- Settles O9: every move keeps the Ticket Unit in agreement, and the tickets whose timers a millisecond brings to 0
expire in it. -/
theorem stepKeepsTicketsAgree : Obligations.StepKeepsTicketsAgree := by
  intro s t hs hc h
  rw [ticketsAgree_iff] at hs ⊢
  obtain ⟨u, hu, hut⟩ := step_cases (k := ⟨True, False, True⟩) (fun _ => hc) trivial h
  have hPu : u.TicketsHeld [] := hu ▸ hs
  obtain hut | ⟨m, hum, rfl⟩ := hut
  · exact Moves.keep (fun m => m.ticketsHeld trivial not_false) hut hPu
  · exact tickGrants_ticketsHeld (Moves.keep (fun m => m.ticketsHeld trivial not_false) hum hPu)

theorem reset_controlAgrees : State.reset.ControlAgrees := by
  refine (controlAgrees_iff _).mpr ⟨fun p => ?_, fun h => OpState.noConfusion h, fun h => OpState.noConfusion h,
    fun _ => ⟨rfl, rfl, rfl⟩, fun h => Bool.noConfusion h, by decide, reset_clocks⟩
  rw [State.reset, PerPort.get_all]
  exact ⟨fun h => Bool.noConfusion h, Nat.zero_le _, fun _ => rfl, fun _ => rfl⟩

/-- Settles O5: after a COLD start every record is IDLE, every table is at its COLD value, and nothing stands open. -/
theorem resetMeetsInvariants : Obligations.ResetMeetsInvariants := by
  have hcold : ∀ i, State.reset.elements.get i = .cold i := fun i => Table.get_ofFn _ i
  have hidle : ∀ i, (State.reset.elements.get i).accounted = false := fun i => by rw [hcold]; rfl
  refine ⟨fun i => hcold i ▸ Element.cold_bounded i, fun i => .inl (Element.derived_of_not_accounted (hidle i)),
    fun _ i ha => absurd ha (by simp [hidle i]), ⟨fun _ => (dueListOf_cold 168).symm, Nat.zero_le _⟩,
    (ticketsAgree_iff _).mpr (reset_ticketsHeld []), fun z => ?_, reset_historyRuns, reset_logRuns,
    reset_controlAgrees, reset_settingsInRange⟩
  have hzone : State.reset.book.zones.get z = .cold := Table.get_ofFn _ z
  rw [State.owner, hzone]
  decide

end Sys2Proof.Machine

/-! PROOF. The wear of an element in use does not fall, but to 0 (R56): every move but the resetting ones keeps or
raises it, and the rows that reset are looked at one by one. And the values that reset leaves. -/

namespace Sys2Proof.Machine

/-! ## Moves that do not reset -/

section
variable {k : Scope} {i : Fin 64} {busy : Bool} {e e' : Element} {s t : State}

/-- A move that does not reset keeps or raises the wear of a record within its bounds (R56, R80). -/
theorem Element.Change.wear_le (c : Element.Change k i busy e e') (hk : ¬k.resetting) (h : e.wear ≤ 4294967295) :
    e.wear ≤ e'.wear := by
  cases c with
  | preset hr => exact absurd hr hk
  | renewed hr => exact absurd hr hk
  | accrued => exact le_min h (Nat.le_add_right _ _)
  | passed shift => exact (e.passed_kept shift).2.2.1.ge
  | _ => exact le_rfl

theorem Move.wear_le (m : Move k s t) (hk : ¬k.resetting) (h : s.ElementsBounded) (n : Fin 64) :
    (s.elements.get n).wear ≤ (t.elements.get n).wear := by
  obtain ⟨hc, -⟩ | he | ⟨hr, -⟩ | ⟨hr, -⟩ := m.elements_cases
  · exact (hc n).wear_le hk (h n).1
  · rw [he n]
    obtain hx | ⟨hx, -⟩ := Element.examined_eq (s.elements.get n) n <;> rw [hx]
  · exact absurd hr hk
  · exact absurd hr hk

theorem Moves.wear_le (m : Moves k s t) (hk : ¬k.resetting) (h : s.ElementsBounded) (n : Fin 64) :
    (s.elements.get n).wear ≤ (t.elements.get n).wear := by
  have hkeep : t.ElementsBounded ∧ (s.elements.get n).wear ≤ (t.elements.get n).wear :=
    Moves.keep (P := fun u => u.ElementsBounded ∧ (s.elements.get n).wear ≤ (u.elements.get n).wear)
      (fun m ⟨hb, hw⟩ => ⟨m.elementsBounded hb, hw.trans (m.wear_le hk hb n)⟩) m ⟨h, le_rfl⟩
  exact hkeep.2

end

/-! ## Rows that may reset -/

/-- The wear of a record in use did not fall, but to 0 in a RENEW or a COLD start (R56). -/
def Element.WearKept (e e' : Element) : Prop :=
  e.inUse = true → e.wear ≤ e'.wear ∨
    (e'.wear = 0 ∧ (e'.renewCount ≠ e.renewCount ∨ e.renewCount = 65535 ∨ e'.state = .idle))

theorem Element.WearKept.refl (e : Element) : e.WearKept e := fun _ => .inl le_rfl

section
variable {s : State} {p : Port} {n : Fin 64}

/-- A RENEW counts itself (R124). -/
theorem Element.renewed_wearKept (e : Element) (n : Fin 64) : e.WearKept (e.renewed n) := by
  refine fun _ => .inr ⟨rfl, ?_⟩
  by_cases hc : e.renewCount = 65535
  · exact .inr (.inl hc)
  · refine .inl ?_
    have : (e.renewed n).renewCount = min 65535 (e.renewCount + 1) := rfl
    omega

theorem renewItem_elements (s : State) (n : Fin 64) (t : Ticket) :
    (s.renewItem n t).elements = s.elements.set n ((s.elements.get n).renewed n) := by
  simp [State.renewItem, State.restateElement, State.appendLog]

/-- What the device a refusal leaves and the one each operand leads to have in common. -/
theorem orBadArg_keeps {α : Type} {P : State → Prop} {o : Option α} {f : α → Taken} (hs : P s)
    (hf : ∀ a, P (f a).state) : P (orBadArg s o f).state := by
  cases o with
  | none => exact hs
  | some a => exact hf a

/-- The same of the checks of RENEW and INSPECT (R123). -/
theorem checkedItem_keeps {P : State → Prop} {sel : Byte} {val : Word} {f : Fin 64 → Ticket → Taken} (hs : P s)
    (hf : ∀ e t, P (f e t).state) : P (checkedItem sel val s f).state := by
  refine orBadArg_keeps hs fun e => ?_
  unfold withTicket
  split
  · rename_i t _
    dsimp only
    split
    · exact hs
    · split
      · exact hs
      · split
        · exact hs
        · split
          · exact hs
          · exact hf e t
  · exact hs

theorem renewEffect_wearKept (sel : Byte) (val : Word) :
    (s.elements.get n).WearKept ((renewEffect sel val s).state.elements.get n) := by
  refine checkedItem_keeps (P := fun t => (s.elements.get n).WearKept (t.elements.get n)) (.refl _) fun e t => ?_
  rw [answered, renewItem_elements, Table.get_set]
  split
  · rename_i he
    exact he ▸ Element.renewed_wearKept _ _
  · exact .refl _

/-- PRESET-WEAR leaves an element in use alone (R69). -/
theorem presetWearEffect_wearKept (sel : Byte) (val : Word) :
    (s.elements.get n).WearKept ((presetWearEffect sel val s).state.elements.get n) := by
  refine orBadArg_keeps (P := fun t => (s.elements.get n).WearKept (t.elements.get n)) (.refl _) fun m => ?_
  split
  · exact .refl _
  · rename_i hu
    simp only [answered, State.setElement_elements, Table.get_set]
    split
    · rename_i hm
      subst hm
      exact fun h => absurd h hu
    · exact .refl _

/-- A COLD start leaves every element IDLE (R169). -/
theorem coldStart_wearKept : (s.elements.get n).WearKept (s.coldStart.elements.get n) := by
  have hcold : s.coldStart.elements.get n = .cold n := Table.get_ofFn _ n
  rw [hcold]
  exact fun _ => .inr ⟨rfl, .inr (.inr rfl)⟩

/-- What the command of any code does to a device that runs. -/
theorem commandEffect_wearKept (p : Port) (code sel : Byte) (val : Word) (levels : Pins) (hr : s.ctl.op ≠ .retained)
    (h : s.ElementsBounded) :
    (s.elements.get n).WearKept ((commandEffect p code sel val levels s).state.elements.get n) := by
  by_cases hc : code ∈ resettingCodes
  · simp only [resettingCodes, List.mem_cons, List.not_mem_nil, or_false] at hc
    obtain rfl | rfl | rfl := hc
    · exact presetWearEffect_wearKept sel val
    · exact renewEffect_wearKept sel val
    · exact coldStart_wearKept
  · exact fun _ => .inl (Moves.wear_le (k := ⟨False, True, False⟩)
      (commandEffect_moves p code sel val levels (fun hm => absurd hm hc) s hr False.elim) not_false h n)

/-- The begin of a frame touches no record. -/
theorem beginFrame_elements (s : State) (p : Port) : (s.beginFrame p).elements = s.elements := by
  unfold State.beginFrame
  split
  · rfl
  · split
    · rfl
    · rw [wakeIfParked_eq_awake, State.mapPort_elements, State.awake]
      split <;> rfl

/-- A command taken leaves the records, or makes of them what its effect does. -/
theorem takeCommand_elements (s : State) (p : Port) (code : Byte) (effect : State → Taken) :
    (s.takeCommand p code effect).elements = s.elements ∨
      (s.takeCommand p code effect).elements = (effect s).state.elements := by
  unfold State.takeCommand
  split
  · exact .inl rfl
  · split
    · split <;> exact .inr rfl
    · exact .inl rfl

theorem takeCommand_wearKept {code : Byte} {effect : State → Taken}
    (he : (s.elements.get n).WearKept ((effect s).state.elements.get n)) :
    (s.elements.get n).WearKept ((s.takeCommand p code effect).elements.get n) := by
  obtain h | h := takeCommand_elements s p code effect <;> rw [h]
  · exact .refl _
  · exact he

theorem frameCommand_wearKept {code : Byte} {effect : State → Taken} (h : s.ElementsBounded)
    (he : ∀ u : State, u.ctl.op ≠ .retained → u.ElementsBounded →
      (u.elements.get n).WearKept ((effect u).state.elements.get n)) :
    (s.elements.get n).WearKept ((s.frameCommand p code effect).elements.get n) := by
  have hbegin := beginFrame_elements s p
  unfold State.frameCommand
  split
  · exact .refl _
  · rename_i hr
    split
    · rw [discardVoid_eq, State.mapPort_elements, hbegin]
      exact .refl _
    · rw [← hbegin]
      refine takeCommand_wearKept (s := (s.beginFrame p).endFrame p 48) (he _ ?_ ?_)
      · exact beginFrame_op_ne_retained hr
      · rw [State.ElementsBounded, State.endFrame_elements, hbegin]
        exact h

theorem releaseFrame_wearKept (p : Port) (edges : Nat) (frame : FrameWord) (levels : Pins) (h : s.ElementsBounded) :
    (s.elements.get n).WearKept ((s.releaseFrame p edges frame levels).elements.get n) := by
  unfold State.releaseFrame
  split
  · exact .refl _
  · split
    · exact .refl _
    · rename_i hr
      split
      · exact .refl _
      · split
        · exact takeCommand_wearKept (s := s.endFrame p edges) (commandEffect_wearKept p _ _ _ levels hr h)
        · exact .refl _

end

/-! ## The statements -/

/-- Settles O13: moves that do not reset keep or raise the wear, a RENEW counts itself, PRESET-WEAR leaves an element in
use alone, and a COLD start leaves every element IDLE. -/
theorem wearOnlyGrows : Obligations.WearOnlyGrows := by
  intro c s t n hb h hu
  by_cases hr : s.ctl.op = .retained
  · exact .inr (.inr hr)
  have hkept : (s.elements.get n).WearKept (t.elements.get n) := by
    by_cases hc : Instr.resets c
    · cases c with
      | presetWear p sel val =>
        exact Host.Outcome.next.inj h ▸ frameCommand_wearKept hb fun _ _ _ => presetWearEffect_wearKept sel val
      | renew p sel val =>
        exact Host.Outcome.next.inj h ▸ frameCommand_wearKept hb fun _ _ _ => renewEffect_wearKept sel val
      | clearAll p => exact Host.Outcome.next.inj h ▸ frameCommand_wearKept hb fun _ _ _ => coldStart_wearKept
      | frameEnd p edges frame levels => exact Host.Outcome.next.inj h ▸ releaseFrame_wearKept p edges frame levels hb
      | unknownCode p code =>
        exact Host.Outcome.next.inj h ▸
          frameCommand_wearKept hb fun _ hr hb => commandEffect_wearKept p code _ _ _ hr hb
      | retainedExit vmain rstn =>
        change execRetainedExit vmain rstn s = .next t at h
        rw [execRetainedExit, if_neg hr] at h
        exact Host.Outcome.next.inj h ▸ .refl _
      | retainedDisturbance m d =>
        change execRetainedDisturbance m d s = .next t at h
        rw [execRetainedDisturbance, if_neg fun hd => hr hd.1] at h
        exact Host.Outcome.next.inj h ▸ .refl _
      | _ => exact absurd hc not_false
    · exact fun _ => .inl (Moves.wear_le (exec_moves (k := ⟨False, True, False⟩) c False.elim (absurd · hc) h)
        not_false hb n)
  exact (hkept hu).imp_right .inl

/-- Settles O4: each table of reset is its COLD value everywhere, the rest by evaluation. -/
theorem resetValues : Obligations.ResetValues := by
  have hports : ∀ p, State.reset.ports.get p = .cold 0 := fun p => PerPort.get_all _ p
  refine ⟨fun i => Table.get_ofFn _ i, by decide, rfl, rfl, ⟨rfl, rfl, rfl, fun z => Table.get_ofFn _ z⟩,
    fun z => Table.get_ofFn _ z, rfl, rfl, rfl, fun n => (Table.get_ofFn _ n).trans ?_, rfl,
    ⟨rfl, rfl, rfl, fun z => Table.get_ofFn _ z⟩, rfl, fun p => ?_, ⟨rfl, rfl, rfl, rfl, rfl,
        fun p => PerPort.get_all _ p⟩, rfl, rfl⟩
  · decide +revert
  · cases p <;> decide +kernel

end Sys2Proof.Machine

/-! PROOF. The frame protocol: each port command as the frame that carries it, the begin and the release of a frame, and
the frames of which nothing is taken (R166, R173 to R179). -/

namespace Sys2Proof.Machine

/-- A coding that a list of pairs spells. -/
theorem code_of_listed {α : Type} {l : List (α × Nat)} {code : α → Nat} (h : ∀ q ∈ l, code q.1 = q.2) {x : α} {n : Nat}
    (hx : (x, n) ∈ l) : code x = n := h _ hx

/-! ## The row of a frame -/

section
variable {c : Instr} {p : Port} {w : FrameWord}

theorem commandEffect_setLine (p : Port) (sel : Byte) (val : Word) (levels : Pins) :
    commandEffect p Code.setLine sel val levels = setLineEffect sel (indexOf val) (fieldValueOf val) := rfl

theorem commandEffect_setTable (p : Port) (sel : Byte) (val : Word) (levels : Pins) :
    commandEffect p Code.setTable sel val levels = setTableEffect sel val := rfl

theorem commandEffect_setElement (p : Port) (sel : Byte) (val : Word) (levels : Pins) :
    commandEffect p Code.setElement sel val levels = setElementEffect sel (indexOf val) (fieldValueOf val) := rfl

theorem commandEffect_readTable (p : Port) (sel : Byte) (val : Word) (levels : Pins) :
    commandEffect p Code.readTable sel val levels = readTableEffect sel (indexOf val) := rfl

theorem setTableEffect_indexed (val : Word) :
    setTableEffect 6 val = setZoneOwnerEffect (indexOf val) (fieldValueOf val) ∧
    setTableEffect 7 val = setFallbackClassEffect (indexOf val) (fieldValueOf val) ∧
    setTableEffect 8 val = setHoldTimeEffect (indexOf val) (fieldValueOf val) ∧
    setTableEffect 11 val = setLoadWeightEffect (indexOf val) (fieldValueOf val) ∧
    setTableEffect 12 val = setSpeedBandBoundEffect (indexOf val) (fieldValueOf val) ∧
    setTableEffect 13 val = setSpeedBandFactorEffect (indexOf val) (fieldValueOf val) :=
  ⟨rfl, rfl, rfl, rfl, rfl, rfl⟩

/-- A command that goes in a frame: its row is that frame's command taken, by the effect that the frame's bits name. -/
def RowOf (s : State) (c : Instr) (p : Port) (w : FrameWord) : Prop :=
  ∃ effect, exec c s = .next (s.frameCommand p (codeOf w) effect) ∧
    ∀ levels, (∀ q l, c = .readLines q l → l = levels) → WellFormed c = true → (sendersOf (codeOf w)).isSome = true →
      effect = commandEffect p (codeOf w) (selectorOf w) (valueOf w) levels

/-- A row said with its own port and frame. -/
theorem rowOf_own {s : State} {q : Port} {w' : FrameWord} (h : some (q, w') = some (p, w)) (hr : RowOf s c q w') :
    RowOf s c p w := by
  cases h
  exact hr

/-- Every command that goes in a frame is the row of that frame (R174, R181 to R184). -/
theorem rowOf_frameOf (s : State) (h : frameOf c = some (p, w)) : RowOf s c p w := by
  cases c with
  | frameBegin | frameEnd | badFrame | voidFrameDiscard | levelFilterAccept | contactScan | blinkHalfCycle | epochClose
  | motionReport | windowEnd | grantTimerExpiry | supplyLoss | keepSupplyLoss | retainedExit | retainedDisturbance =>
    cases h
  | readLines q l =>
    refine rowOf_own h ⟨_, by rw [codeOf_frameWord]; rfl, fun levels hl _ _ => ?_⟩
    obtain rfl := hl q l rfl
    rw [codeOf_frameWord]
    rfl
  | unknownCode q code =>
    refine rowOf_own h ⟨_, by rw [codeOf_frameWord]; rfl, fun levels _ hwf hs => ?_⟩
    rw [codeOf_frameWord, ← Option.not_isNone] at hs
    have hnone : (sendersOf code).isNone = true := hwf
    simp [hnone] at hs
  | setFittedFlag q side val =>
    cases side
    all_goals
      refine rowOf_own h ⟨_, by rw [codeOf_frameWord]; rfl, fun levels _ _ _ => ?_⟩
      simp only [codeOf_frameWord, selectorOf_frameWord, valueOf_frameWord]
      rfl
  | setZoneOwner | setFallbackClass | setHoldTime | setLoadWeight | setSpeedBandBound | setSpeedBandFactor
  | readTable =>
    refine rowOf_own h ⟨_, by rw [codeOf_frameWord]; rfl, fun levels _ _ _ => ?_⟩
    simp only [codeOf_frameWord, selectorOf_frameWord, valueOf_frameWord, commandEffect_setTable,
      commandEffect_readTable, setTableEffect_indexed, indexOf_dividedValue, fieldValueOf_dividedValue]
  | _ =>
    refine rowOf_own h ⟨_, by rw [codeOf_frameWord]; rfl, fun levels _ _ _ => ?_⟩
    simp only [codeOf_frameWord, selectorOf_frameWord, valueOf_frameWord, commandEffect_setLine,
      commandEffect_setElement, indexOf_dividedValue, fieldValueOf_dividedValue]
    rfl

end

/-! ## Frames begun and released -/

section
variable {s : State} {p : Port}

/-- A frame already under way does not begin again (R173). -/
theorem beginFrame_of_select (h : (s.ports.get p).select = true) : s.beginFrame p = s := by
  rw [State.beginFrame, if_pos h]

/-- ATTN, FROZEN and the staged answer, sent out in a frame that begins now (R149, R175). -/
theorem answerFrame_eq (s : State) (p : Port) : s.answerFrame p = s.answerBits p := rfl

/-- The assertion of chip select wakes a parked device and brings out the answer (R149, R163, R173). -/
theorem beginFrame_of_released (hr : s.ctl.op ≠ .retained) (h : (s.ports.get p).select = false) :
    s.beginFrame p = { s.awake with ports := s.ports.set p { s.ports.get p with
      select := true
      bitCount := 0
      shiftOut := s.awake.answerBits p } } := by
  rw [State.beginFrame, if_neg (by simp [h]), if_neg hr, wakeIfParked_eq_awake, answerFrame_eq, State.mapPort,
    PerPort.modify, awake_ports]

/-- A whole frame released, where one is under way, is its command taken. -/
theorem releaseFrame_eq_frameCommand (hs : (s.ports.get p).select = true) (w : FrameWord) (levels : Pins) :
    s.releaseFrame p 48 w levels =
      s.frameCommand p (codeOf w) (commandEffect p (codeOf w) (selectorOf w) (valueOf w) levels) := by
  rw [State.releaseFrame, State.frameCommand, if_neg (by simp [hs]), beginFrame_of_select hs, if_pos rfl]

/-- Where the code names no command, its effect is not asked (R179). -/
theorem frameCommand_unknown {code : Byte} (hc : sendersOf code = none) (f g : State → Taken) :
    s.frameCommand p code f = s.frameCommand p code g := by
  simp only [State.frameCommand, State.takeCommand, hc]

/-- Once begun, outside RETAINED, chip select is asserted (R173). -/
theorem beginFrame_select (hr : s.ctl.op ≠ .retained) : ((s.beginFrame p).ports.get p).select = true := by
  by_cases hs : (s.ports.get p).select = true
  · rwa [beginFrame_of_select hs]
  · rw [beginFrame_of_released hr (by simpa using hs)]
    simp

/-- In RETAINED a port shows its chip select and no more (R166). -/
theorem beginFrame_in_retained (hr : s.ctl.op = .retained) :
    s.beginFrame p = s.mapPort p fun i => { i with select := true } := by
  unfold State.beginFrame
  split
  · rename_i hs
    have hi : ({ s.ports.get p with select := true } : Interface) = s.ports.get p := by rw [← hs]
    simp [State.mapPort, PerPort.modify, hi]
  · rfl

/-- In RETAINED a release releases chip select and no more (R165, R166). -/
theorem releaseFrame_in_retained (hr : s.ctl.op = .retained) (edges : Nat) (w : FrameWord) (levels : Pins) :
    s.releaseFrame p edges w levels = s.mapPort p fun i => { i with select := false } := by
  unfold State.releaseFrame
  split
  · rename_i hs
    have hi : ({ s.ports.get p with select := false } : Interface) = s.ports.get p := by rw [← hs]
    simp [State.mapPort, PerPort.modify, hi]
  · rfl

/-- A void frame under way is discarded at its release, whatever it brought (R178). -/
theorem releaseFrame_void (hr : s.ctl.op ≠ .retained) (hs : (s.ports.get p).select = true)
    (hv : (s.ports.get p).void = true) (edges : Nat) (w : FrameWord) (levels : Pins) :
    s.releaseFrame p edges w levels = s.discardVoid p edges := by
  rw [State.releaseFrame, if_neg (by simp [hs]), if_neg hr, if_pos hv]

/-- A frame of other than 48 bits is a frame error (R177). -/
theorem releaseFrame_error (hr : s.ctl.op ≠ .retained) (hs : (s.ports.get p).select = true)
    (hv : (s.ports.get p).void = false) {edges : Nat} (he : edges ≠ 48) (w : FrameWord) (levels : Pins) :
    s.releaseFrame p edges w levels = (s.endFrame p edges).frameError p := by
  rw [State.releaseFrame, if_neg (by simp [hs]), if_neg hr, if_neg (by simp [hv]), if_neg he]

/-- The device as the command of a frame finds it (R163, R173, R174). -/
theorem received_eq (h : s.Taking p) : s.received p = { s.awake with ports := s.ports.set p { s.ports.get p with
    select := false
    bitCount := 48
    shiftOut := if (s.ports.get p).select then (s.ports.get p).shiftOut else s.awake.answerBits p } } := by
  obtain ⟨hr, -, hp⟩ := h
  by_cases hs : (s.ports.get p).select = true
  · have hawake : s.awake = s := if_neg fun hop => by simp [hs] at *; exact absurd hop hp
    rw [State.received, beginFrame_of_select hs, hs, hawake]
    rfl
  · rw [Bool.not_eq_true] at hs
    rw [State.received, beginFrame_of_released hr hs, hs]
    simp [State.endFrame, State.mapPort, PerPort.modify, countEdges, saturate, Config.bitCountTop]

/-- The frame error of a frame that ends now, on the device as a command would find it (R177). -/
theorem frameError_eq (s : State) (p : Port) (edges : Nat) :
    ((s.beginFrame p).endFrame p edges).frameError p =
      let r : State := s.received p
      { r with
        notices := r.notices.set p { r.notices.get p with events := (r.notices.get p).events ||| 0x8000 }
        ports := r.ports.set p { r.ports.get p with
          bitCount := min 255 edges
          staged := ⟨.badFrame, 0xFF, BitVec.ofNat 32 (min 255 edges)⟩ } } := by
  simp [State.frameError, State.received, State.endFrame, State.mapPort, PerPort.modify, State.raiseAt, countEdges,
    saturate, Config.bitCountTop]
  rfl

end

/-! ## The senders of a code -/

/-- In a list whose keys are distinct, the search for a key finds the row that has it. -/
theorem find?_map_eq_some_iff {α β : Type} [DecidableEq α] {l : List (α × β)} (hl : (l.map (·.1)).Nodup)
    {a : α} {b : β} :
    (l.find? fun row => row.1 = a).map (·.2) = some b ↔ (a, b) ∈ l := by
  constructor
  · intro h
    obtain ⟨row, hrow, rfl⟩ := Option.map_eq_some_iff.mp h
    have ha : row.1 = a := by simpa using List.find?_some hrow
    exact ha ▸ List.mem_of_find?_eq_some hrow
  · intro h
    obtain ⟨row, hrow⟩ := Option.isSome_iff_exists.mp
      (List.find?_isSome (p := fun row : α × β => row.1 = a).mpr ⟨_, h, by simp⟩)
    have ha : row.1 = a := by simpa using List.find?_some hrow
    rw [hrow, List.inj_on_of_nodup_map hl (List.mem_of_find?_eq_some hrow) h ha]
    rfl

/-- The codes that the ports `who` may send, as the command table lists them (R180). -/
theorem sendersOf_eq_some_iff {code : Byte} {who : Senders} :
    sendersOf code = some who ↔ code ∈ (commandTable.filter fun row => row.2 = who).map (·.1) := by
  rw [sendersOf, find?_map_eq_some_iff (by decide)]
  simp

/-! ## The statements -/

/-- Settles O15: each code's row of the command table, and the two refusals that come before any effect. -/
theorem firstChecks : Obligations.FirstChecks := by
  have hfirst : ∀ {p : Port} {s : State}, s.Taking p → ∀ (code : Byte) (effect : State → Taken),
      (sendersOf code = none → s.frameCommand p code effect = (s.received p).answering p code .unknown 0) ∧
      ∀ who, sendersOf code = some who → who.permit p = false →
        s.frameCommand p code effect = (s.received p).answering p code .notPermitted 0 := by
    intro p s h code effect
    rw [frameCommand_taking code effect h]
    exact ⟨takeCommand_unknown effect, fun who hc hw => takeCommand_notPermitted effect hc hw⟩
  refine ⟨fun code => ⟨?_, ?_, ?_, fun p => rfl, fun p => ?_, fun p => ?_⟩, fun p s h => ⟨?_, ?_, ?_, ?_⟩⟩
  · exact sendersOf_eq_some_iff
  · exact sendersOf_eq_some_iff
  · exact sendersOf_eq_some_iff
  · cases p <;> decide
  · cases p <;> decide
  · exact fun code hwf => congrArg Host.Outcome.next ((hfirst h code _).1 (Option.isNone_iff_eq_none.mp hwf))
  · exact fun frame levels hs hc => congrArg Host.Outcome.next
      ((releaseFrame_eq_frameCommand hs frame levels).trans ((hfirst h _ _).1 hc))
  · exact fun frame levels who hs hc hw => congrArg Host.Outcome.next
      ((releaseFrame_eq_frameCommand hs frame levels).trans ((hfirst h _ _).2 who hc hw))
  · intro c w who hf hc hw
    obtain ⟨effect, hrow, -⟩ := rowOf_frameOf s hf
    rw [hrow, (hfirst h _ effect).2 who hc hw]

/-- Settles O16: nothing runs in RETAINED, and a void frame's release is its discard. -/
theorem nothingReceived : Obligations.NothingReceived := by
  refine ⟨fun p s hr => ?_, fun p s hr hv hs => ?_⟩
  · have hrun : s.running = false := by simp [State.running, hr]
    refine ⟨fun c w hf => ?_, fun edges w levels =>
        congrArg Host.Outcome.next (releaseFrame_in_retained hr edges w levels),
      fun edges => congrArg Host.Outcome.next ?_, congrArg Host.Outcome.next (beginFrame_in_retained hr),
      fun line level => if_pos (.inl hr), fun levels ht => congrArg Host.Outcome.next ?_,
      congrArg Host.Outcome.next ?_, congrArg Host.Outcome.next ?_, congrArg Host.Outcome.next ?_,
      fun zone => congrArg Host.Outcome.next ?_, fun ticket => congrArg Host.Outcome.next ?_⟩
    · obtain ⟨effect, hrow, -⟩ := rowOf_frameOf s hf
      rw [hrow, frameCommand_retained _ effect hr]
      rfl
    · rw [beginFrame_in_retained hr]
      refine (releaseFrame_in_retained (s := s.mapPort p fun i => { i with select := true }) hr ..).trans ?_
      simp [State.mapPort, PerPort.modify]
    · rw [State.scanContacts, ht]
    · rw [State.blinkHalf, hrun]
      rfl
    · rw [hrun]
      rfl
    · rw [hrun]
      rfl
    · rw [hrun]
      rfl
    · unfold State.expireNumber
      rw [hrun]
      split <;> rfl
  · have hdiscard : ∀ edges, s.discardVoid p edges = { s with ports := s.ports.set p { s.ports.get p with
        select := false
        void := false
        bitCount := min 255 edges } } := fun edges => discardVoid_eq s p edges
    have hrelease : ∀ edges w levels, s.releaseFrame p edges w levels = s.discardVoid p edges :=
      releaseFrame_void hr hs hv
    refine ⟨fun edges => ⟨congrArg Host.Outcome.next ?_, congrArg Host.Outcome.next ?_⟩,
      fun edges w levels => congrArg Host.Outcome.next ((hrelease edges w levels).trans (hdiscard edges)),
      fun c w hf => ?_⟩
    · rw [if_pos hv, hdiscard]
    · rw [beginFrame_of_select hs, hrelease, hdiscard]
    · obtain ⟨effect, hrow, -⟩ := rowOf_frameOf s hf
      rw [hrow, frameCommand_void _ effect hr hv, beginFrame_of_select hs, hdiscard]

/-- Settles O17: the release of any other count of bits raises FRAME and stages the BAD-FRAME answer. -/
theorem frameError : Obligations.FrameError := by
  intro p edges s h he
  obtain ⟨hr, hv, -⟩ := id h
  refine ⟨congrArg Host.Outcome.next ?_, fun hs w levels => congrArg Host.Outcome.next ?_⟩
  · rw [releaseFrame_error (beginFrame_op_ne_retained hr) (beginFrame_select hr) (by simpa using hv) he]
    exact frameError_eq s p edges
  · rw [releaseFrame_error hr hs hv he, ← beginFrame_of_select hs]
    simpa only [beginFrame_of_select hs] using frameError_eq s p edges

/-- Settles O18: a frame begun, its answer on the pin, and NOP as the command that changes no more. -/
theorem frameBeginsAndIsTaken : Obligations.FrameBeginsAndIsTaken := by
  refine ⟨fun p s hr => ⟨fun hs => congrArg Host.Outcome.next (beginFrame_of_select hs),
    fun hs => congrArg Host.Outcome.next (beginFrame_of_released hr hs)⟩, fun p s h => ⟨received_eq h, ?_, ?_⟩,
    fun p s falls => ⟨dataOut_none falls, fun hr hs hf => ?_, fun hr hs hf => ?_⟩,
    fun _ _ => code_of_listed (by decide)⟩
  · exact congrArg Host.Outcome.next (frameCommand_answered (who := .all) h (by decide) rfl rfl)
  · intro frame levels hs hc
    refine congrArg Host.Outcome.next ((releaseFrame_eq_frameCommand hs frame levels).trans ?_)
    rw [hc]
    exact frameCommand_answered (who := .all) h (by decide) rfl rfl
  · rw [dataOut_some falls hr hs, if_pos hf]
  · rw [dataOut_some falls hr hs, if_neg (Nat.not_lt.mpr hf)]

/-- Settles O14: the row of a command is its frame's command taken, and the frame's bits name its effect. -/
theorem frameRunsCommand : Obligations.FrameRunsCommand := by
  intro c p w levels s hf hwf hs hl
  obtain ⟨effect, hrow, heffect⟩ := rowOf_frameOf s hf
  rw [hrow]
  refine congrArg Host.Outcome.next ((releaseFrame_eq_frameCommand hs w levels).trans ?_)
  cases hc : sendersOf (codeOf w) with
  | none => exact frameCommand_unknown hc _ _
  | some who => rw [heffect levels hl hwf (by rw [hc]; rfl)]

end Sys2Proof.Machine

/-! PROOF. Settings and tables, and the load book (R25, R28, R39, R41, R42, R45, R50, R51, R74, R86, R98, R110, R182):
an operand in range and one out of it, then each command by its operand. -/

namespace Sys2Proof.Machine

/-! ## A command from a port that may send it -/

section
variable {s t : State} {p : Port} {code : Byte} {effect : State → Taken} {r : Result} {data : Nat}

/-- A command of R180 that the Maintenance Port alone may send, taken and answered. -/
theorem maintenance_answered (h : s.Taking .m)
    (he : effect (s.received .m) = ⟨t, some ⟨r, BitVec.ofNat 32 data⟩⟩)
    (hc : sendersOf code = some .maintenance := by decide) :
    (.next (s.frameCommand .m code effect) : Host.Outcome State Fault Refusal) =
      .next (t.answering .m code r data) :=
  congrArg Host.Outcome.next (frameCommand_answered h hc rfl he)

/-- The same, for one that is declined. -/
theorem maintenance_declined (h : s.Taking .m) (he : effect (s.received .m) = declined (s.received .m) r)
    (hc : sendersOf code = some .maintenance := by decide) :
    (.next (s.frameCommand .m code effect) : Host.Outcome State Fault Refusal) =
      .next ((s.received .m).answering .m code r 0) :=
  maintenance_answered h he hc

/-- A command of R180 that any port may send, taken and answered. -/
theorem any_answered (h : s.Taking p) (he : effect (s.received p) = ⟨t, some ⟨r, BitVec.ofNat 32 data⟩⟩)
    (hc : sendersOf code = some .all := by decide) :
    (.next (s.frameCommand p code effect) : Host.Outcome State Fault Refusal) = .next (t.answering p code r data) :=
  congrArg Host.Outcome.next (frameCommand_answered h hc rfl he)

/-- The same, for one that is declined. -/
theorem any_declined (h : s.Taking p) (he : effect (s.received p) = declined (s.received p) r)
    (hc : sendersOf code = some .all := by decide) :
    (.next (s.frameCommand p code effect) : Host.Outcome State Fault Refusal) =
      .next ((s.received p).answering p code r 0) :=
  any_answered h he hc

/-- A command of R180 that the line ports may send, taken and answered. -/
theorem line_answered {side : Side} (h : s.Taking (portOf side))
    (he : effect (s.received (portOf side)) = ⟨t, some ⟨r, BitVec.ofNat 32 data⟩⟩)
    (hc : sendersOf code = some .line := by decide) :
    (.next (s.frameCommand (portOf side) code effect) : Host.Outcome State Fault Refusal) =
      .next (t.answering (portOf side) code r data) :=
  congrArg Host.Outcome.next (frameCommand_answered h hc (by cases side <;> rfl) he)

/-- The same, for one that is declined. -/
theorem line_declined {side : Side} (h : s.Taking (portOf side))
    (he : effect (s.received (portOf side)) = declined (s.received (portOf side)) r)
    (hc : sendersOf code = some .line := by decide) :
    (.next (s.frameCommand (portOf side) code effect) : Host.Outcome State Fault Refusal) =
      .next ((s.received (portOf side)).answering (portOf side) code r 0) :=
  line_answered h he hc

/-- A command finds a device that is not RETAINED (R166). -/
theorem received_ne_retained (h : s.Taking p) : (s.received p).ctl.op ≠ .retained :=
  ne_retained_of_running (received_running h)

/-- A command finds a device that is not PARKED (R163). -/
theorem received_ne_parked (h : s.Taking p) : (s.received p).ctl.op ≠ .parked := by
  have hr := received_running h
  intro hp
  simp [State.running, hp] at hr

end

/-! ## Operands -/

section
variable {s : State} {α β : Type}

/-- The number of a record as an operand names it. -/
theorem finOf_ofNat {n w : Nat} (i : Fin n) (hn : n ≤ 2 ^ w) : finOf n (BitVec.ofNat w i.val).toNat = some i := by
  rw [BitVec.toNat_ofNat, Nat.mod_eq_of_lt (i.isLt.trans_le hn), finOf_val]

/-- An operand refused, of the one or the other of two (R181). -/
theorem orBadArg_pair {a : Option α} {b : Option β} {f : α → β → Taken} (h : a = none ∨ b = none) :
    (orBadArg s a fun x => orBadArg s b (f x)) = declined s .badArg := by
  obtain rfl | rfl := h
  · rfl
  · cases a <;> rfl

theorem orBadArg_none' (s : State) (f : α → Taken) : orBadArg s none f = declined s .badArg := rfl

/-- A number from `n` on, or a value refused, for an indexed record. -/
theorem finOf_none_or {n k : Nat} {b : Option β} {q : Prop} (h : n - 1 < k ∨ q) (hq : q → b = none) :
    finOf n k = none ∨ b = none :=
  h.imp (fun hk => finOf_none (by omega)) hq

theorem flagOf_none {v : Nat} (h : 1 < v) : flagOf v = none := by
  match v, h with
  | _ + 2, _ => rfl

theorem directionOf_none {v : Nat} (h : 1 < v) : directionOf v = none := by
  match v, h with
  | _ + 2, _ => rfl

theorem sensingOf_none {v : Nat} (h : 1 < v) : sensingOf v = none := by
  match v, h with
  | _ + 2, _ => rfl

theorem ownerSideOf_none {v : Nat} (h : 1 < v) : ownerSideOf v = none := by
  match v, h with
  | _ + 2, _ => rfl

theorem functionOf_none {v : Nat} (h : 4 < v) : functionOf v = none := by
  match v, h with
  | _ + 5, _ => rfl

theorem historyModeOf_none {v : Nat} (h : 1 < v) : historyModeOf v = none := by
  match v, h with
  | _ + 2, _ => rfl

theorem ownerOf_none {v : Nat} (h : 3 < v) : ownerOf v = none := by
  match v, h with
  | _ + 4, _ => rfl

theorem voteOf_none {v : Nat} (h : 2 < v) : voteOf v = none := by
  match v, h with
  | _ + 3, _ => rfl

theorem referenceWritten_none {v : Nat} (h : 23 < v ∧ v ≠ 255) : referenceWritten v = none := by
  rw [referenceWritten, if_neg (Nat.not_le.mpr h.1), if_neg h.2]

/-- SET-TABLE of an item that names no setting (R182). -/
theorem setTableEffect_badArg {item : Byte} (val : Word) (h : item.toNat ∈ [1, 3, 4, 9, 10] ∨ 20 < item.toNat) :
    setTableEffect item val s = declined s .badArg := by
  obtain h | h := h
  · simp only [List.mem_cons, List.not_mem_nil, or_false] at h
    obtain h | h | h | h | h := h <;> (rw [setTableEffect, h]; rfl)
  · obtain ⟨k, hk⟩ := Nat.exists_eq_add_of_lt h
    have hitem : item.toNat = k + 21 := by omega
    rw [setTableEffect, hitem]
    rfl

/-- SET-LINE of a field that names none (R184). -/
theorem setLineEffect_badArg {sel idx : Byte} (fv : FieldValue) (h : 9 < idx.toNat) :
    setLineEffect sel idx fv s = declined s .badArg := by
  obtain ⟨k, hk⟩ := Nat.exists_eq_add_of_lt h
  have hidx : idx.toNat = k + 10 := by omega
  rw [setLineEffect, hidx]
  rfl

/-- SET-ELEMENT of a field that names none (R183). -/
theorem setElementEffect_badArg {sel idx : Byte} (fv : FieldValue) (h : 9 < idx.toNat) :
    setElementEffect sel idx fv s = declined s .badArg := by
  obtain ⟨k, hk⟩ := Nat.exists_eq_add_of_lt h
  have hidx : idx.toNat = k + 10 := by omega
  rw [setElementEffect, hidx]
  rfl

end

/-! ## Refusals -/

section
variable {s : State}

/-- A frame of the Maintenance Port under way, released after 48 bits, to a command that is declined. -/
theorem frameEnd_declined (h : s.Taking .m) (hs : (s.ports.get .m).select = true) {code : Byte} {frame : FrameWord}
    {levels : Pins} (hc : codeOf frame = code) {r : Result}
    (he : commandEffect .m code (selectorOf frame) (valueOf frame) levels (s.received .m) = declined (s.received .m) r)
    (hm : sendersOf code = some .maintenance) :
    exec (.frameEnd .m 48 frame levels) s = .next ((s.received .m).answering .m code r 0) := by
  subst hc
  exact (congrArg Host.Outcome.next (releaseFrame_eq_frameCommand hs frame levels)).trans
    (maintenance_declined h he hm)

/-- SET-LINE of a record or a value out of range (R3). -/
theorem setLineWith_badArg {α : Type} {sel : Byte} {value : Option α} (f : α → Line → Line)
    (h : 23 < sel.toNat ∨ value = none) (t : State) : setLineWith sel value f t = declined t .badArg :=
  orBadArg_pair (finOf_none_or h id)

/-- SET-ELEMENT of a record or a value out of range (R61). -/
theorem setElementWith_badArg {α : Type} {sel : Byte} {value : Option α} (store : Fin 64 → α → State → Taken)
    (h : 63 < sel.toNat ∨ value = none) (t : State) : setElementWith sel value store t = declined t .badArg :=
  orBadArg_pair (finOf_none_or h id)

theorem tableRefusals (val : Word) (h : s.Taking .m) :
    let r : State := s.received .m
    let refused (c : Instr) : Prop := exec c s = .next (r.answering .m 0x18 .badArg 0)
    (65535 < val.toNat → refused (.setEpochDivider .m val) ∧ refused (.setWindowLength .m val) ∧
      refused (.setHorizon .m val) ∧ refused (.setGrantTime .m val)) ∧
    (1 < val.toNat → refused (.setHistoryMode .m val) ∧ ∀ side, refused (.setFittedFlag .m side val)) ∧
    (15 < val.toNat → refused (.setQuietScanIndex .m val) ∧ refused (.setParkScanIndex .m val)) := by
  refine ⟨fun hv => ?_, fun hv => ?_, fun hv => ?_⟩
  · have hw : within 0 65535 val.toNat = none := within_none (.inr hv)
    have hup : clampedUp 1 65535 val.toNat = none := clampedUp_none hv
    exact ⟨maintenance_declined h (by rw [setEpochDividerEffect, hw, orBadArg_none']),
      maintenance_declined h (by rw [setWindowLengthEffect, hup, orBadArg_none']),
      maintenance_declined h (by rw [setHorizonEffect, hw, orBadArg_none']),
      maintenance_declined h (by rw [setGrantTimeEffect, hup, orBadArg_none'])⟩
  · exact ⟨maintenance_declined h (by rw [setHistoryModeEffect, historyModeOf_none hv, orBadArg_none']),
      fun side => maintenance_declined h (by rw [setFittedFlagEffect, flagOf_none hv, orBadArg_none'])⟩
  · have hw : within 0 15 val.toNat = none := within_none (.inr hv)
    exact ⟨maintenance_declined h (by rw [setQuietScanIndexEffect, hw, orBadArg_none']),
      maintenance_declined h (by rw [setParkScanIndexEffect, hw, orBadArg_none'])⟩

theorem indexedRefusals (idx : Byte) (fv : FieldValue) (h : s.Taking .m) :
    let r : State := s.received .m
    let refused (c : Instr) : Prop := exec c s = .next (r.answering .m 0x18 .badArg 0)
    (7 < idx.toNat ∨ 3 < fv.toNat → refused (.setZoneOwner .m idx fv)) ∧
    (7 < idx.toNat ∨ 7 < fv.toNat → refused (.setFallbackClass .m idx fv)) ∧
    (7 < idx.toNat ∨ 255 < fv.toNat → refused (.setHoldTime .m idx fv) ∧ refused (.setLoadWeight .m idx fv) ∧
      refused (.setSpeedBandFactor .m idx fv)) ∧
    (7 < idx.toNat ∨ 65535 < fv.toNat → refused (.setSpeedBandBound .m idx fv)) := by
  refine ⟨fun hv => ?_, fun hv => ?_, fun hv => ⟨?_, ?_, ?_⟩, fun hv => ?_⟩
  · exact maintenance_declined h (orBadArg_pair (finOf_none_or hv ownerOf_none))
  · exact maintenance_declined h (orBadArg_pair (finOf_none_or hv fun hv => within_none (.inr hv)))
  · exact maintenance_declined h (orBadArg_pair (finOf_none_or hv clampedUp_none))
  · exact maintenance_declined h (orBadArg_pair (finOf_none_or hv fun hv => within_none (.inr hv)))
  · exact maintenance_declined h (orBadArg_pair (finOf_none_or hv fun hv => within_none (.inr hv)))
  · exact maintenance_declined h (orBadArg_pair (finOf_none_or hv fun hv => within_none (.inr hv)))

theorem lineRefusals (sel : Byte) (fv : FieldValue) (val : Word) (h : s.Taking .m) :
    let r : State := s.received .m
    let v := fv.toNat
    let line (c : Instr) : Prop := exec c s = .next (r.answering .m 0x11 .badArg 0)
    (23 < sel.toNat ∨ 1 < v → line (.setLineDirection .m sel fv) ∧ line (.setLineLevelField .m sel fv) ∧
      line (.setLinePullUp .m sel fv) ∧ line (.setLineFloat .m sel fv) ∧ line (.setLineSensingMode .m sel fv) ∧
      line (.setLinePolarity .m sel fv) ∧ line (.setLineWakeEnable .m sel fv) ∧ line (.setLineOwnerSide .m sel fv)) ∧
    (23 < sel.toNat ∨ 4 < v → line (.setLineFunction .m sel fv)) ∧
    (23 < sel.toNat ∨ 7 < v → line (.setLineZone .m sel fv)) ∧
    (23 < sel.toNat ∨ 1 < val.toNat → exec (.setLineLevel .m sel val) s = .next (r.answering .m 0x13 .badArg 0)) := by
  refine ⟨fun hv => ?_, fun hv => ?_, fun hv => ?_, fun hv => ?_⟩
  · have hflag : 23 < sel.toNat ∨ flagOf fv.toNat = none := hv.imp_right flagOf_none
    exact ⟨maintenance_declined h (setLineWith_badArg _ (hv.imp_right directionOf_none) _),
      maintenance_declined h (setLineWith_badArg _ hflag _), maintenance_declined h (setLineWith_badArg _ hflag _),
      maintenance_declined h (setLineWith_badArg _ hflag _),
      maintenance_declined h (setLineWith_badArg _ (hv.imp_right sensingOf_none) _),
      maintenance_declined h (setLineWith_badArg _ hflag _), maintenance_declined h (setLineWith_badArg _ hflag _),
      maintenance_declined h (setLineWith_badArg _ (hv.imp_right ownerSideOf_none) _)⟩
  · exact maintenance_declined h (setLineWith_badArg _ (hv.imp_right functionOf_none) _)
  · exact maintenance_declined h (setLineWith_badArg _ (hv.imp_right fun hv => finOf_none hv) _)
  · exact maintenance_declined h (orBadArg_pair (finOf_none_or hv flagOf_none))

theorem elementRefusals (sel : Byte) (fv : FieldValue) (h : s.Taking .m) :
    let r : State := s.received .m
    let v := fv.toNat
    let element (c : Instr) : Prop := exec c s = .next (r.answering .m 0x21 .badArg 0)
    (63 < sel.toNat ∨ 7 < v → element (.setElementZone .m sel fv)) ∧
    (63 < sel.toNat ∨ 23 < v → element (.setElementTachLine .m sel fv)) ∧
    (63 < sel.toNat ∨ v = 0 ∨ 255 < v → element (.setElementPpr .m sel fv)) ∧
    (63 < sel.toNat ∨ v = 0 ∨ 4095 < v → element (.setElementRatio .m sel fv) ∧
      element (.setElementExpectedRatio .m sel fv)) ∧
    (63 < sel.toNat ∨ (23 < v ∧ v ≠ 255) → element (.setElementReferenceLine .m sel fv)) ∧
    (63 < sel.toNat ∨ 255 < v → element (.setElementSlipTolerance .m sel fv) ∧
      element (.setElementSlipWeight .m sel fv)) ∧
    (63 < sel.toNat ∨ v = 0 ∨ 1048575 < v → element (.setElementLimit .m sel fv)) ∧
    (63 < sel.toNat ∨ 1048575 < v → element (.setElementMargin .m sel fv)) := by
  have hrefused : ∀ {α : Type} {c : Option α} {effect : Fin 64 → α → State → Taken}, (63 < sel.toNat ∨ c = none) →
      (.next (s.frameCommand .m Code.setElement (setElementWith sel c effect)) : Host.Outcome State Fault Refusal) =
        .next ((s.received .m).answering .m 0x21 .badArg 0) :=
    fun hv => maintenance_declined h (setElementWith_badArg _ hv _)
  have hfrom : ∀ {v hi : Nat}, v = 0 ∨ hi < v → within 1 hi v = none := fun hv =>
    within_none (hv.imp_left fun h0 => by omega)
  refine ⟨fun hv => ?_, fun hv => ?_, fun hv => ?_, fun hv => ⟨?_, ?_⟩, fun hv => ?_, fun hv => ⟨?_, ?_⟩, fun hv => ?_,
    fun hv => ?_⟩
  · exact hrefused (hv.imp_right fun hv => finOf_none hv)
  · exact hrefused (hv.imp_right fun hv => within_none (.inr hv))
  · exact hrefused (hv.imp_right hfrom)
  · exact hrefused (hv.imp_right hfrom)
  · exact hrefused (hv.imp_right hfrom)
  · exact hrefused (hv.imp_right referenceWritten_none)
  · exact hrefused (hv.imp_right clampedUp_none)
  · exact hrefused (hv.imp_right clampedUp_none)
  · exact hrefused (hv.imp_right hfrom)
  · exact hrefused (hv.imp_right fun hv => within_none (.inr hv))

end

/-- Settles O27: an operand out of its range, an index that names no record, or an item or field that names no
setting. -/
theorem writeRefusals : Obligations.WriteRefusals := by
  refine ⟨fun val idx fv s h => ?_, fun sel fv val s h => ?_⟩
  · obtain ⟨h1, h2, h3⟩ := tableRefusals val h
    obtain ⟨h4, h5, h6, h7⟩ := indexedRefusals idx fv h
    refine ⟨h1, h2, h3, h4, h5, h6, h7, fun frame levels hs hc hsel => ?_⟩
    exact frameEnd_declined h hs hc (setTableEffect_badArg _ hsel) (by decide)
  · obtain ⟨h1, h2, h3, h4⟩ := lineRefusals sel fv val h
    obtain ⟨h5, h6, h7, h8, h9, h10, h11, h12⟩ := elementRefusals sel fv h
    exact ⟨h1, h2, h3, h4, h5, h6, h7, h8, h9, h10, h11, h12, fun frame levels hs hi =>
      ⟨fun hc => frameEnd_declined h hs hc (setLineEffect_badArg _ hi) (by decide),
        fun hc => frameEnd_declined h hs hc (setElementEffect_badArg _ hi) (by decide)⟩⟩

end Sys2Proof.Machine

/-! PROOF. What SET-TABLE stores (R25, R28, R39, R41, R42, R51, R74, R86, R98, R99, R110), and LOAD with the effective
class (R45, R50). -/

namespace Sys2Proof.Machine

/-! ## Settings -/

section
variable {s : State}

/-- The quiet scan index stored; the timer restarts while QUIET is in force (R11). -/
theorem setQuietScanIndexEffect_eq {r : State} {val : Word} (hv : val.toNat ≤ 15) :
    setQuietScanIndexEffect val r = answered { r with scan := { r.scan with
      quietIndex := val.toNat
      timer := if r.ctl.op = .quiet then some (2 * Config.scanTable.getD val.toNat 0) else r.scan.timer } } 0 := by
  rw [setQuietScanIndexEffect, within_some (Nat.zero_le _) hv, orBadArg_some]
  dsimp only
  split
  · rename_i hq
    simp [State.restartScan, State.scanTimerPeriod, hq, scanPeriod]
  · rfl

/-- The park scan index stored; a command finds no parked device, so the timer waits for its state (R11). -/
theorem setParkScanIndexEffect_eq {r : State} {val : Word} (hv : val.toNat ≤ 15) (hr : r.ctl.op ≠ .parked) :
    setParkScanIndexEffect val r = answered { r with scan := { r.scan with parkIndex := val.toNat } } 0 := by
  rw [setParkScanIndexEffect, within_some (Nat.zero_le _) hv, orBadArg_some]
  dsimp only
  rw [if_neg hr]

theorem historyModeOf_zero {val : Word} (h : val.toNat = 0) : historyModeOf val.toNat = some .stop := by rw [h]; rfl

theorem historyModeOf_one {val : Word} (h : val.toNat = 1) : historyModeOf val.toNat = some .cycle := by rw [h]; rfl

theorem tableSettings (val : Word) (h : s.Taking .m) :
    let r : State := s.received .m
    let v := val.toNat
    (v ≤ 65535 → exec (.setWindowLength .m val) s =
      .next ({ r with window := { r.window with length := max 1 v } }.answering .m 0x18 .done 0)) ∧
    (v = 0 → exec (.setHistoryMode .m val) s =
      .next ({ r with history := { r.history with mode := .stop } }.answering .m 0x18 .done 0)) ∧
    (v = 1 → exec (.setHistoryMode .m val) s =
      .next ({ r with history := { r.history with mode := .cycle } }.answering .m 0x18 .done 0)) ∧
    exec (.setSmoothingShift .m val) s =
      .next ({ r with plan := { r.plan with shift := min 7 v } }.answering .m 0x18 .done 0) ∧
    (v ≤ 65535 → exec (.setGrantTime .m val) s =
      .next ({ r with tickets := { r.tickets with grantTime := max 1 v } }.answering .m 0x18 .done 0)) ∧
    (v ≤ 15 → exec (.setQuietScanIndex .m val) s = .next ({ r with scan := { r.scan with
      quietIndex := v
      timer := if r.ctl.op = OpState.quiet then some (2 * Config.scanTable.getD v 0) else r.scan.timer } }.answering
        .m 0x18 .done 0)) ∧
    (v ≤ 15 → exec (.setParkScanIndex .m val) s =
      .next ({ r with scan := { r.scan with parkIndex := v } }.answering .m 0x18 .done 0)) := by
  refine ⟨fun hv => maintenance_answered h ?_, fun hv => maintenance_answered h ?_,
    fun hv => maintenance_answered h ?_, maintenance_answered h rfl, fun hv => maintenance_answered h ?_,
    fun hv => maintenance_answered h (setQuietScanIndexEffect_eq hv),
    fun hv => maintenance_answered h (setParkScanIndexEffect_eq hv (received_ne_parked h))⟩
  · rw [setWindowLengthEffect, clampedUp_some hv, orBadArg_some, answered]
  · rw [setHistoryModeEffect, historyModeOf_zero hv, orBadArg_some, answered]
  · rw [setHistoryModeEffect, historyModeOf_one hv, orBadArg_some, answered]
  · rw [setGrantTimeEffect, clampedUp_some hv, orBadArg_some, answered]

theorem indexedSettings (i : Fin 8) (fv : FieldValue) (h : s.Taking .m) :
    let r : State := s.received .m
    let idx := BitVec.ofNat 8 i.val
    let v := fv.toNat
    (v ≤ 7 → exec (.setFallbackClass .m idx fv) s = .next ({ r with book := { r.book with
      zones := r.book.zones.set i { r.book.zones.get i with fallback := v } } }.answering .m 0x18 .done 0)) ∧
    (v ≤ 255 → exec (.setHoldTime .m idx fv) s = .next ({ r with book := { r.book with
      zones := r.book.zones.set i { r.book.zones.get i with holdTime := max 1 v } } }.answering .m 0x18 .done 0)) ∧
    (v ≤ 255 → exec (.setLoadWeight .m idx fv) s = .next ({ r with book := { r.book with
      weights := r.book.weights.set i v } }.answering .m 0x18 .done 0)) ∧
    (v ≤ 65535 → exec (.setSpeedBandBound .m idx fv) s = .next ({ r with
      bands := r.bands.set i { r.bands.get i with bound := v } }.answering .m 0x18 .done 0)) ∧
    (v ≤ 255 → exec (.setSpeedBandFactor .m idx fv) s = .next ({ r with
      bands := r.bands.set i { r.bands.get i with factor := v } }.answering .m 0x18 .done 0)) := by
  have hi : finOf 8 (BitVec.ofNat 8 i.val).toNat = some i := finOf_ofNat i (by decide)
  refine ⟨fun hv => maintenance_answered h ?_, fun hv => maintenance_answered h ?_,
    fun hv => maintenance_answered h ?_, fun hv => maintenance_answered h ?_, fun hv => maintenance_answered h ?_⟩
  · rw [setFallbackClassEffect, hi, orBadArg_some, within_some (Nat.zero_le _) hv]
    rfl
  · rw [setHoldTimeEffect, hi, orBadArg_some, clampedUp_some hv]
    rfl
  · rw [setLoadWeightEffect, hi, orBadArg_some, within_some (Nat.zero_le _) hv]
    rfl
  · rw [setSpeedBandBoundEffect, hi, orBadArg_some, within_some (Nat.zero_le _) hv]
    rfl
  · rw [setSpeedBandFactorEffect, hi, orBadArg_some, within_some (Nat.zero_le _) hv]
    rfl

end

/-- Settles O26: each setting in its range is stored, clamped where its rule says. -/
theorem settingsStored : Obligations.SettingsStored :=
  ⟨fun val _ h => tableSettings val h, fun i fv _ h => indexedSettings i fv h⟩

/-! ## Zone owners and load reports -/

/-- An owner setting with the reports that lapse with it, said with the report spelled (R42). -/
theorem ZoneBook.withOwner_eq (b : ZoneBook) (o : Owner) : b.withOwner o = { b with
    owner := o
    reportA := if b.owner.has .a = true ∧ o.has .a = false then ⟨b.reportA.cls, 0, true⟩ else b.reportA
    reportB := if b.owner.has .b = true ∧ o.has .b = false then ⟨b.reportB.cls, 0, true⟩ else b.reportB } := by
  simp only [withOwner, LoadReport.lapse, Bool.and_eq_true, Bool.not_eq_true']

theorem ownerOf_of_mem : ∀ x ∈ [(0, Owner.nobody), (1, .a), (2, .b), (3, .both)], ownerOf x.1 = some x.2 := by decide

/-- Settles O30: BUSY while the hold record is not FREE, else the owner stored with the reports that lapse. -/
theorem ownerWrite : Obligations.OwnerWrite := by
  intro z fv o s h hmem
  have hz : finOf 8 (BitVec.ofNat 8 z.val).toNat = some z := finOf_ofNat z (by decide)
  have ho : ownerOf fv.toNat = some o := ownerOf_of_mem _ hmem
  refine ⟨fun hf => maintenance_declined h ?_, fun hf => maintenance_answered h ?_⟩
  · rw [setZoneOwnerEffect, hz, orBadArg_some, ho, orBadArg_some, if_neg hf]
  · rw [setZoneOwnerEffect, hz, orBadArg_some, ho, orBadArg_some, if_pos hf, ← ZoneBook.withOwner_eq]
    rfl

theorem sideOf_portOf (side : Side) : sideOf (portOf side) = some side := by cases side <;> rfl

/-- LOAD with its zone and class in range (R45). -/
theorem loadEffect_eq (side : Side) (z : Fin 8) {val : Word} (hv : val.toNat ≤ 7) (r : State) :
    loadEffect (portOf side) (BitVec.ofNat 8 z.val) val r =
      if (r.owner z).has side = true then answered (r.mapZone z fun b => b.reported side val.toNat)
        ((r.book.zones.get z).reported side val.toNat).effectiveClass
      else declined r .notOwner := by
  rw [loadEffect, finOf_ofNat z (by decide), orBadArg_some, within_some (Nat.zero_le _) hv, orBadArg_some,
    sideOf_portOf]
  simp only [State.mapZone, Table.get_modify_same]

/-- Settles O31: the class by owner and reports, and a LOAD that replaces one report. -/
theorem loadReplacesReport : Obligations.LoadReplacesReport := by
  refine ⟨fun b => ⟨fun h => ?_, fun h => ?_, fun h ha hb => ?_, fun h ha hb => ?_, fun h ha hb => ?_,
    fun h ha hb => ?_, fun h => ?_⟩, fun b => ⟨rfl, rfl⟩, fun side val s h => ⟨fun sel hr => ?_,
        fun z hv => ⟨fun ho => ?_,
    fun ho => ?_⟩⟩⟩
  · rw [ZoneBook.effectiveClass, h]
    rfl
  · rw [ZoneBook.effectiveClass, h]
    rfl
  · have he : b.effectiveClass = max b.reportA.cls b.reportB.cls := by simp [ZoneBook.effectiveClass, h, ha, hb]
    exact he ▸ ⟨le_max_left _ _, le_max_right _ _, max_choice _ _⟩
  · simp [ZoneBook.effectiveClass, h, ha, hb]
  · simp [ZoneBook.effectiveClass, h, ha, hb]
  · simp [ZoneBook.effectiveClass, h, ha, hb]
  · rw [ZoneBook.effectiveClass, h]
  · exact line_declined h (orBadArg_pair (finOf_none_or hr fun hv => within_none (.inr hv)))
  · refine line_declined h ?_
    rw [loadEffect_eq side z hv, if_neg]
    exact fun h => Bool.false_ne_true (ho.symm.trans h)
  · refine line_answered h ?_
    have hown : ((s.received (portOf side)).owner z).has side = true := ho
    rw [loadEffect_eq side z hv, if_pos hown]
    cases side <;> rfl

/-! ## The divider and the horizon -/

/-- Settles O28: with nothing outstanding the write is the marker, the close of an expiry, and the new length. -/
theorem dividerClosesEpoch : Obligations.DividerClosesEpoch := by
  intro val s h hv r ho
  have hr : (s.received .m).running = true := received_running h
  refine ⟨_, congrArg Host.Outcome.next (if_pos hr), closeEpoch_ms _, maintenance_answered h ?_⟩
  rw [setEpochDividerEffect, within_some (Nat.zero_le _) hv, orBadArg_some, settle_of_not_outstanding ho]
  rfl

/-- The due list reads in ascending order of T, and of element number for equal T (R97). -/
theorem dueListOf_sorted (elements : Table Element 64) (horizon : Nat) :
    (dueListOf elements horizon).Pairwise fun i j => (elements.get i).projection < (elements.get j).projection ∨
      ((elements.get i).projection = (elements.get j).projection ∧ i < j) := by
  have : Std.Total (dueBefore elements) := ⟨fun i j => by simp only [dueBefore]; omega⟩
  have : IsTrans (Fin 64) (dueBefore elements) := ⟨fun i j k => by simp only [dueBefore]; omega⟩
  have hsorted : (dueListOf elements horizon).Pairwise (dueBefore elements) := List.pairwise_insertionSort _ _
  have hnodup : (dueListOf elements horizon).Nodup :=
    (List.perm_insertionSort _ _).nodup_iff.mpr ((List.nodup_finRange 64).filter _)
  exact (hsorted.and hnodup).imp fun ⟨hle, hne⟩ => by simp only [dueBefore] at hle; omega

/-- Settles O29: a horizon write is a bringing into order, and the list's members and order are those of the sort. -/
theorem dueListInOrder : Obligations.DueListInOrder := by
  refine ⟨fun val s h hv => maintenance_answered h ?_, fun s ⟨hd, _⟩ hr => ⟨fun n => ?_, ?_⟩⟩
  · rw [setHorizonEffect, within_some (Nat.zero_le _) hv, orBadArg_some, answered, ← bringDue_eq_replanned]
  · rw [hd hr, mem_dueListOf]
    simp [Element.planned, Element.accounted, and_assoc, or_assoc]
  · rw [hd hr]
    exact dueListOf_sorted _ _

end Sys2Proof.Machine

/-! PROOF. The Ticket Unit's commands: GRANT and REVOKE (R115 to R117), the motion report (R120, R121), OPEN-TICKET and
ADD-ITEM (R107, R111, R112) and START-TICKET (R113). -/

namespace Sys2Proof.Machine

/-! ## Grants -/

section
variable {s : State} {z : Fin 8} {side : Side}

/-- A zone's guard is open while a GATE line of the zone stands at its active level (R15). -/
theorem guardOpen_iff (s : State) (z : Fin 8) : s.guardOpen z = true ↔ ∃ k, (s.lines.get k).function = .gate ∧
    (s.lines.get k).zone = z ∧ (s.lines.get k).filtered = some (s.lines.get k).polarity := by
  rw [State.guardOpen, Table.any_iff]
  simp only [decide_eq_true_eq, activeZone_eq_some, and_comm (a := _ = some _)]

/-- What a grant that leaves another owner's missing records (R115). -/
theorem recordGrant_partial (h : (s.owner z).allGranted ((s.tickets.holds.get z).withGrant side true) = false) :
    s.recordGrant z side = { s with tickets := { s.tickets with
      holds := s.tickets.holds.set z ((s.tickets.holds.get z).withGrant side true) } } := by
  rw [recordGrant_eq, recordGrant_tickets, if_neg (by simp [h])]
  rfl

/-- What the grant that completes the owners' grants records (R116). -/
theorem recordGrant_completes (h : (s.owner z).allGranted ((s.tickets.holds.get z).withGrant side true) = true) :
    s.recordGrant z side = { s with tickets := { s.tickets with
      holds := s.tickets.holds.set z { (s.tickets.holds.get z).withGrant side true with state := .held }
      table := s.tickets.table.map fun t =>
        if t.zone = z ∧ t.state = .awaiting then t.enterWorking (s.guardOpen z) else t } } := by
  rw [recordGrant_eq, recordGrant_tickets, if_pos h]
  simp only [ite_and]
  rfl

/-- A grant withdrawn from a zone that is not HELD (R117). -/
theorem withdrawGrant_requested (h : (s.tickets.holds.get z).state ≠ .held) :
    s.withdrawGrant z side = { s with tickets := { s.tickets with
      holds := s.tickets.holds.set z ((s.tickets.holds.get z).withGrant side false) } } := by
  rw [withdrawGrant_eq, withdrawGrant_tickets, if_neg h]
  rfl

/-- A grant withdrawn from a HELD zone (R117). -/
theorem withdrawGrant_held (h : (s.tickets.holds.get z).state = .held) :
    s.withdrawGrant z side = { s with tickets := { s.tickets with
      holds := s.tickets.holds.set z { (s.tickets.holds.get z).withGrant side false with state := .requested }
      table := s.tickets.table.map fun t =>
        if t.zone = z ∧ t.state = .working then t.enterAwaiting s.grantMs else t } } := by
  rw [withdrawGrant_eq, withdrawGrant_tickets, if_pos h]
  simp only [ite_and]
  rfl

/-- GRANT on a zone that exists, from a line port (R115). -/
theorem grantEffect_eq (side : Side) (z : Fin 8) (r : State) : grantEffect (portOf side) (BitVec.ofNat 8 z.val) r =
    if (r.owner z).has side = false then declined r .notOwner
    else if (r.tickets.holds.get z).state = .free then declined r .notRequested
    else if (r.tickets.holds.get z).grant side = true then answered r (r.tickets.holds.get z).state.code
    else answered (r.recordGrant z side) ((r.recordGrant z side).tickets.holds.get z).state.code := by
  rw [grantEffect, finOf_ofNat z (by decide), orBadArg_some, sideOf_portOf]
  simp only [Bool.not_eq_true', State.holdCode]

/-- REVOKE on a zone that exists, from a line port (R117). -/
theorem revokeEffect_eq (side : Side) (z : Fin 8) (r : State) : revokeEffect (portOf side) (BitVec.ofNat 8 z.val) r =
    if (r.owner z).has side = false then declined r .notOwner
    else if (r.tickets.holds.get z).grant side = false then declined r .notGranted
    else answered (r.withdrawGrant z side) ((r.withdrawGrant z side).tickets.holds.get z).state.code := by
  rw [revokeEffect, finOf_ofNat z (by decide), orBadArg_some, sideOf_portOf]
  simp only [Bool.not_eq_true', State.holdCode]

theorem grant_rows (h : s.Taking (portOf side)) (z : Fin 8) :
    let p := portOf side
    let r := s.received p
    let h := r.tickets.holds.get z
    let h' := h.withGrant side true
    let c := Instr.grant p (BitVec.ofNat 8 z.val)
    ((r.owner z).has side = false → exec c s = .next (r.answering p 0x0B .notOwner 0)) ∧
    ((r.owner z).has side = true → h.state = .free → exec c s = .next (r.answering p 0x0B .notRequested 0)) ∧
    ((r.owner z).has side = true → h.state ≠ .free → h.grant side = true →
      exec c s = .next (r.answering p 0x0B .done h.state.code)) ∧
    ((r.owner z).has side = true → h.state ≠ .free → h.grant side = false → (r.owner z).allGranted h' = false →
      exec c s = .next ({ r with tickets := { r.tickets with holds := r.tickets.holds.set z h' } }.answering p 0x0B
        .done h.state.code)) ∧
    ((r.owner z).has side = true → h.state ≠ .free → h.grant side = false → (r.owner z).allGranted h' = true →
      exec c s = .next ({ r with tickets := { r.tickets with
        holds := r.tickets.holds.set z { h' with state := .held }
        table := r.tickets.table.map fun t : Ticket =>
          if t.zone = z ∧ t.state = TicketState.awaiting then t.enterWorking (r.guardOpen z) else t } }.answering p 0x0B
            .done 2)) := by
  refine ⟨fun ho => line_declined h ?_, fun ho hf => line_declined h ?_, fun ho hf hg => line_answered h ?_,
    fun ho hf hg ha => line_answered h ?_, fun ho hf hg ha => line_answered h ?_⟩
  · rw [grantEffect_eq, if_pos ho]
  · rw [grantEffect_eq, if_neg (by simp [ho]), if_pos hf]
  · rw [grantEffect_eq, if_neg (by simp [ho]), if_neg hf, if_pos hg, answered]
  · rw [grantEffect_eq, if_neg (by simp [ho]), if_neg hf, if_neg (by simp [hg]), recordGrant_partial ha, answered,
      Table.get_set_same, (HoldRecord.withGrant_state _ side true).1]
  · rw [grantEffect_eq, if_neg (by simp [ho]), if_neg hf, if_neg (by simp [hg]), recordGrant_completes ha, answered,
      Table.get_set_same]
    rfl

theorem revoke_rows (h : s.Taking (portOf side)) (z : Fin 8) :
    let p := portOf side
    let r := s.received p
    let h := r.tickets.holds.get z
    let h' := h.withGrant side false
    let c := Instr.revoke p (BitVec.ofNat 8 z.val)
    ((r.owner z).has side = false → exec c s = .next (r.answering p 0x0C .notOwner 0)) ∧
    ((r.owner z).has side = true → h.grant side = false → exec c s = .next (r.answering p 0x0C .notGranted 0)) ∧
    ((r.owner z).has side = true → h.grant side = true → h.state ≠ .held →
      exec c s = .next ({ r with tickets := { r.tickets with holds := r.tickets.holds.set z h' } }.answering p 0x0C
        .done h.state.code)) ∧
    ((r.owner z).has side = true → h.grant side = true → h.state = .held →
      exec c s = .next ({ r with tickets := { r.tickets with
        holds := r.tickets.holds.set z { h' with state := .requested }
        table := r.tickets.table.map fun t : Ticket =>
          if t.zone = z ∧ t.state = TicketState.working then t.enterAwaiting r.grantMs else t } }.answering p 0x0C
              .done 1)) := by
  refine ⟨fun ho => line_declined h ?_, fun ho hg => line_declined h ?_, fun ho hg hs => line_answered h ?_,
    fun ho hg hs => line_answered h ?_⟩
  · rw [revokeEffect_eq, if_pos ho]
  · rw [revokeEffect_eq, if_neg (by simp [ho]), if_pos hg]
  · rw [revokeEffect_eq, if_neg (by simp [ho]), if_neg (by simp [hg]), withdrawGrant_requested hs, answered,
      Table.get_set_same, (HoldRecord.withGrant_state _ side false).1]
  · rw [revokeEffect_eq, if_neg (by simp [ho]), if_neg (by simp [hg]), withdrawGrant_held hs, answered,
      Table.get_set_same]
    rfl

end

/-- Settles O32: each refusal in its order, and what a grant recorded and a grant withdrawn leave. -/
theorem grantAndRevoke : Obligations.GrantAndRevoke := by
  refine ⟨fun o => ⟨Owner.has_a_iff, Owner.has_b_iff, fun h => ?_⟩, fun h => ⟨rfl, rfl⟩, guardOpen_iff,
    fun _ _ => code_of_listed (by decide), fun side s h => ⟨fun sel hs => line_declined h ?_, fun z => ?_⟩,
    fun side s h => ⟨fun sel hs => line_declined h ?_, fun z => ?_⟩⟩
  · cases o <;> simp [Owner.allGranted, Owner.has]
  · rw [grantEffect, finOf_none hs, orBadArg_none']
  · cases side
    · exact grant_rows (side := .a) h z
    · exact grant_rows (side := .b) h z
  · rw [revokeEffect, finOf_none hs, orBadArg_none']
  · cases side
    · exact revoke_rows (side := .a) h z
    · exact revoke_rows (side := .b) h z

/-! ## Motion -/

/-- A report taken changes the notices, where its zone is not FREE, and the Ticket Unit (R120, R121). -/
theorem takeReport_of_not_free {s : State} {z : Fin 8} (h : (s.tickets.holds.get z).state ≠ .free) :
    s.takeReport z = { s.noticed Notice.motion.bit with tickets := (s.takeReport z).tickets } := by
  unfold State.takeReport
  dsimp only
  split
  · rename_i hf
    exact absurd hf h
  · rfl
  · rfl
  · rfl

/-- Settles O33: the report is taken by the hold state and the owner of its zone. -/
theorem motionReportDropsHold : Obligations.MotionReportDropsHold := by
  intro z s hr h reports n
  have hexec (t : State) (ht : s.takeReportIf z = t) : exec (.motionReport z) s = .next t :=
    congrArg Host.Outcome.next ((if_pos hr).trans ht)
  refine ⟨fun hz => hexec _ ?_, fun hz => ⟨fun hf => hexec _ ?_, fun hq => hexec _ ?_, fun hh ho => hexec _ ?_,
    fun hh ho => hexec _ ?_⟩⟩
  · rw [State.takeReportIf, hz]
    rfl
  · rw [State.takeReportIf, if_pos hz, takeReport_free hf]
  · rw [State.takeReportIf, if_pos hz, takeReport_of_not_free (fun hf => HoldState.noConfusion (hq.symm.trans hf)),
      takeReport_requested hq]
    rfl
  · rw [State.takeReportIf, if_pos hz, takeReport_of_not_free (fun hf => HoldState.noConfusion (hh.symm.trans hf)),
      takeReport_held_nobody hh ho]
    simp only [ite_and]
    rfl
  · rw [State.takeReportIf, if_pos hz, takeReport_of_not_free (fun hf => HoldState.noConfusion (hh.symm.trans hf)),
      takeReport_held_owned hh ho]
    simp only [ite_and]
    rfl

/-! ## Opening and building a ticket -/

section
variable {s : State} {n : Nat} {t : Ticket}

theorem onTicket_iff (s : State) (e : Fin 64) :
    s.onTicket e = true ↔ ∃ t ∈ s.tickets.table, ∃ i ∈ t.items, i.element = e := by
  simp [State.onTicket, Ticket.names]

theorem ticket?_none_iff : s.ticket? n = none ↔ ∀ t ∈ s.tickets.table, t.number ≠ n := by
  simp [State.ticket?]

theorem mem_of_ticket? (h : s.ticket? n = some t) : t ∈ s.tickets.table ∧ t.number = n :=
  ⟨List.mem_of_find?_eq_some h, by simpa using List.find?_some h⟩

theorem withTicket_none (h : s.ticket? n = none) (f : Ticket → Taken) : withTicket s n f = declined s .noTicket := by
  rw [withTicket, h]

theorem withTicket_some (h : s.ticket? n = some t) (f : Ticket → Taken) : withTicket s n f = f t := by
  rw [withTicket, h]

theorem inUse_iff {e : Element} : e.inUse = true ↔ e.state ≠ .idle := bne_iff_ne

theorem inUse_eq_false_iff {e : Element} : e.inUse = false ↔ e.state = .idle := bne_eq_false_iff_eq

/-- OPEN-TICKET on an element that exists (R111). -/
theorem openTicketEffect_eq (e : Fin 64) (r : State) : openTicketEffect (BitVec.ofNat 8 e.val) r =
    if 8 ≤ r.tickets.table.length then declined r .full
    else if (r.elements.get e).inUse = false then declined r .notInUse
    else if r.onTicket e = true then declined r .busy
    else answered { r with tickets := { r.tickets with
      table := r.tickets.table ++ [.opened r.nextNumber (r.elements.get e).zone e]
      next := numberAfter r.nextNumber } } r.nextNumber := by
  rw [openTicketEffect, finOf_ofNat e (by decide), orBadArg_some]
  simp only [Bool.not_eq_true', Config.ticketCapacity]

/-- ADD-ITEM of an element that exists (R112). -/
theorem addItemEffect_eq (sel : Byte) (e : Fin 64) (r : State) : addItemEffect sel (BitVec.ofNat 32 e.val) r =
    withTicket r sel.toNat fun t =>
      if t.state ≠ .planned then declined r .notPlanned
      else if (r.elements.get e).inUse = false then declined r .notInUse
      else if r.onTicket e = true then declined r .busy
      else if (r.elements.get e).zone ≠ t.zone then declined r .zoneMix
      else if 6 ≤ t.items.length then declined r .full
      else answered (r.mapTicket t.number fun u => { u with items := u.items ++ [⟨e, .pending⟩] })
        (t.items.length + 1) := by
  rw [addItemEffect, finOf_ofNat e (by decide), orBadArg_some]
  simp only [Bool.not_eq_true', Config.itemCapacity]
  rfl

end

theorem open_rows {s : State} (h : s.Taking .m) (e : Fin 64) :
    let r : State := s.received .m
    let numbers := r.tickets.table.map Ticket.number
    let c := Instr.openTicket .m (BitVec.ofNat 8 e.val)
    (8 ≤ numbers.length → exec c s = .next (r.answering .m 0x30 .full 0)) ∧
    (numbers.length < 8 → (r.elements.get e).state = .idle → exec c s = .next (r.answering .m 0x30 .notInUse 0)) ∧
    (numbers.length < 8 → (r.elements.get e).state ≠ .idle → r.onTicket e = true →
      exec c s = .next (r.answering .m 0x30 .busy 0)) ∧
    (numbers.length < 8 → 1 ≤ r.tickets.next → r.tickets.next ≤ 255 → (r.elements.get e).state ≠ .idle →
      r.onTicket e = false →
      ∃ steps, steps ≤ 8 ∧ (∀ j, j < steps → numberAfter^[j] r.tickets.next ∈ numbers) ∧
        let k := numberAfter^[steps] r.tickets.next
        (1 ≤ k ∧ k ≤ 255) ∧ k ∉ numbers ∧ exec c s = .next ({ r with tickets := { r.tickets with
          table := r.tickets.table ++ [Ticket.opened k (r.elements.get e).zone e]
          next := numberAfter k } }.answering .m 0x30 .done k)) := by
  intro r numbers c
  have hlen : numbers.length = r.tickets.table.length := List.length_map _
  rw [hlen]
  refine ⟨fun hl => maintenance_declined h ?_, fun hl hi => maintenance_declined h ?_,
    fun hl hi hb => maintenance_declined h ?_, fun hl hlo hhi hi hb => ?_⟩
  · rw [openTicketEffect_eq, if_pos hl]
  · rw [openTicketEffect_eq, if_neg (Nat.not_le.mpr hl), if_pos (inUse_eq_false_iff.mpr hi)]
  · rw [openTicketEffect_eq, if_neg (Nat.not_le.mpr hl), if_neg (mt inUse_eq_false_iff.mp hi), if_pos hb]
  · obtain ⟨steps, hsteps, heq, hbefore, hfree⟩ := nextNumber_free ⟨hlo, hhi⟩ (Nat.le_of_lt hl)
    refine ⟨steps, hsteps, hbefore, heq ▸ nextNumber_range ⟨hlo, hhi⟩, hfree, maintenance_answered h ?_⟩
    rw [openTicketEffect_eq, if_neg (Nat.not_le.mpr hl), if_neg (mt inUse_eq_false_iff.mp hi), if_neg (by simp [r, hb]),
      ← heq]
    rfl

theorem addItem_rows {s : State} (h : s.Taking .m) (sel : Byte) (e : Fin 64) :
    let r : State := s.received .m
    let val := BitVec.ofNat 32 e.val
    let refused (x : Result) : Prop := exec (.addItem .m sel val) s = .next (r.answering .m 0x31 x 0)
    (r.ticket? sel.toNat = none → refused .noTicket) ∧
    (∀ t, r.ticket? sel.toNat = some t →
      (t.state ≠ .planned → refused .notPlanned) ∧
      (t.state = .planned → (r.elements.get e).state = .idle → refused .notInUse) ∧
      (t.state = .planned → (r.elements.get e).state ≠ .idle →
        (r.onTicket e = true → refused .busy) ∧
        (r.onTicket e = false → (r.elements.get e).zone ≠ t.zone → refused .zoneMix) ∧
        (r.onTicket e = false → (r.elements.get e).zone = t.zone → 6 ≤ t.items.length → refused .full) ∧
        (r.onTicket e = false → (r.elements.get e).zone = t.zone → t.items.length < 6 →
          exec (.addItem .m sel val) s = .next ({ r with tickets := { r.tickets with
            table := r.tickets.table.map fun u : Ticket =>
              if u.number = sel.toNat then { u with items := u.items ++ [Item.mk e .pending] }
              else u } }.answering .m 0x31
                .done (t.items.length + 1))))) := by
  intro r val refused
  refine ⟨fun ht => maintenance_declined h ?_, fun t ht => ?_⟩
  · rw [addItemEffect_eq, withTicket_none ht]
  · have heffect (f : Ticket → Taken) : withTicket (s.received .m) sel.toNat f = f t := withTicket_some ht f
    refine ⟨fun hp => maintenance_declined h ?_, fun hp hi => maintenance_declined h ?_, fun hp hi =>
      ⟨fun hb => maintenance_declined h ?_, fun hb hz => maintenance_declined h ?_,
        fun hb hz hl => maintenance_declined h ?_, fun hb hz hl => maintenance_answered h ?_⟩⟩ <;>
      rw [addItemEffect_eq, heffect]
    · rw [if_pos hp]
    · rw [if_neg (not_not_intro hp), if_pos (inUse_eq_false_iff.mpr hi)]
    · rw [if_neg (not_not_intro hp), if_neg (mt inUse_eq_false_iff.mp hi), if_pos hb]
    · rw [if_neg (not_not_intro hp), if_neg (mt inUse_eq_false_iff.mp hi), if_neg (by simp [r, hb]), if_pos hz]
    · rw [if_neg (not_not_intro hp), if_neg (mt inUse_eq_false_iff.mp hi), if_neg (by simp [r, hb]),
        if_neg (not_not_intro hz), if_pos hl]
    · rw [if_neg (not_not_intro hp), if_neg (mt inUse_eq_false_iff.mp hi), if_neg (by simp [r, hb]),
        if_neg (not_not_intro hz), if_neg (Nat.not_le.mpr hl), (mem_of_ticket? ht).2]
      rfl

/-- Settles O35: the refusals in their order, the number by the search of R107, the item at the end. -/
theorem openTicketAndAddItem : Obligations.OpenTicketAndAddItem := by
  refine ⟨onTicket_iff, fun s k => ⟨ticket?_none_iff, fun t => mem_of_ticket?⟩,
    fun s h => ⟨fun sel hs => maintenance_declined h ?_, fun e => open_rows h e⟩,
    fun sel s h => ⟨fun val hv => maintenance_declined h ?_, fun e => addItem_rows h sel e⟩⟩
  · rw [openTicketEffect, finOf_none hs, orBadArg_none']
  · rw [addItemEffect, finOf_none hv, orBadArg_none']

/-! ## Starting a ticket -/

section
variable {s : State} {t : Ticket} {n : Nat}

theorem startedHold_eq (b : HoldState) (o : Owner) : startedHold b o =
    if b = .held ∨ (b = .free ∧ o = .nobody) then .held else .requested := by
  cases b <;> cases o <;> rfl

theorem ne_parked_of_running (h : s.running = true) : s.ctl.op ≠ .parked := by
  intro hp
  simp [State.running, hp] at h

/-- A ticket found in a table each of whose tickets is rewritten with its number kept. -/
theorem ticket?_map {u : State} {f : Ticket → Ticket} (hf : ∀ t : Ticket, (f t).number = t.number)
    (hu : u.tickets.table = s.tickets.table.map f) (h : s.ticket? n = some t) : u.ticket? n = some (f t) := by
  have hnumber : ((fun t : Ticket => decide (t.number = n)) ∘ f) = fun t : Ticket => decide (t.number = n) := by
    funext t
    simp [hf t]
  rw [State.ticket?] at h ⊢
  rw [hu, List.find?_map, hnumber, h, Option.map_some]

/-- A ticket started, the hold record in its new state, before the operating state is brought (R113). -/
def State.ticketStarted (s : State) (t : Ticket) : State :=
  let after := startedHold (s.tickets.holds.get t.zone).state (s.owner t.zone)
  { s with tickets := { s.tickets with
      holds := s.tickets.holds.set t.zone { s.tickets.holds.get t.zone with
        state := after
        demand := (s.tickets.holds.get t.zone).demand + 1 }
      table := s.tickets.table.map fun u =>
        if u.number = t.number then u.started after (s.guardOpen t.zone) s.grantMs else u } }

/-- A zone whose ticket has started holds the device back (R159). -/
theorem heldBack_ticketStarted (s : State) (t : Ticket) : (s.ticketStarted t).heldBack = true := by
  refine Bool.or_eq_true_iff.mpr (.inr ((Table.any_iff _ _).mpr ⟨t.zone, ?_⟩))
  simp only [State.ticketStarted, Table.get_set_same, startedHold_eq]
  split <;> rfl

/-- Where the requested state stands, or is PARKED and held back to QUIET already, a start brings nothing (R160). -/
theorem startTicket_eq (hr : s.running = true) (h : (s.tickets.holds.get t.zone).state = .free →
    s.ctl.requested = s.ctl.op ∨ (s.ctl.requested = .parked ∧ s.ctl.op = .quiet)) :
    s.startTicket t = s.ticketStarted t := by
  have hs : s.startTicket t = if (s.tickets.holds.get t.zone).state = .free then (s.ticketStarted t).bring
    else s.ticketStarted t := rfl
  rw [hs]
  split
  · rename_i hf
    refine bring_of_same ?_
    have hctl : (s.ticketStarted t).ctl = s.ctl := rfl
    rw [State.broughtTo, heldBack_ticketStarted, hctl]
    obtain hsame | ⟨hp, hq⟩ := h hf
    · rw [if_neg, hsame]
      rintro ⟨hp, -⟩
      exact ne_parked_of_running hr (hsame.symm.trans hp)
    · rw [if_pos ⟨hp, rfl⟩, hq]
  · rfl

/-- The state that the answer to a START-TICKET carries (R113, R185). -/
theorem ticketCode_ticketStarted (h : s.ticket? n = some t) : (s.ticketStarted t).ticketCode t.number =
    (t.started (startedHold (s.tickets.holds.get t.zone).state (s.owner t.zone)) (s.guardOpen t.zone)
      s.grantMs).state.code := by
  have hn := (mem_of_ticket? h).2
  have hfound := ticket?_map (u := s.ticketStarted t) (fun u => by
    split
    · exact (u.started_kept _ _ _).1
    · rfl) rfl h
  rw [State.ticketCode, hn, hfound, if_pos rfl]

end

/-- Settles O36: the refusals, and a start by whether its zone is HELD once it is started. -/
theorem startTicketAsks : Obligations.StartTicketAsks := by
  refine ⟨guardOpen_iff, fun _ _ => code_of_listed (by decide), fun sel s h => ⟨fun ht => maintenance_declined h ?_,
    fun t ht => ⟨fun hs => maintenance_declined h ?_, fun hs hb => ⟨fun hheld => maintenance_answered h ?_,
      fun hheld => maintenance_answered h ?_⟩⟩⟩⟩
  · rw [startTicketEffect, withTicket_none ht]
  · rw [startTicketEffect, withTicket_some ht, if_pos (Ticket.active_iff.mpr hs)]
  · have hactive : t.active = false := Ticket.active_eq_false_iff.mpr (by
      constructor <;> rintro ha <;> simp [ha] at hs)
    have hafter := (startedHold_eq ((s.received .m).tickets.holds.get t.zone).state
      ((s.received .m).owner t.zone)).trans
      (if_pos hheld)
    rw [startTicketEffect, withTicket_some ht, if_neg (by simp [hactive]), startTicket_eq (received_running h) hb,
      ticketCode_ticketStarted ht, State.ticketStarted, hafter, (mem_of_ticket? ht).2]
    rfl
  · have hactive : t.active = false := Ticket.active_eq_false_iff.mpr (by
      constructor <;> rintro ha <;> simp [ha] at hs)
    have hafter := (startedHold_eq ((s.received .m).tickets.holds.get t.zone).state
      ((s.received .m).owner t.zone)).trans
      (if_neg hheld)
    rw [startTicketEffect, withTicket_some ht, if_neg (by simp [hactive]), startTicket_eq (received_running h) hb,
      ticketCode_ticketStarted ht, State.ticketStarted, hafter, (mem_of_ticket? ht).2]
    rfl

end Sys2Proof.Machine

/-! PROOF. The operating state brought (R156 to R161), what brings it: a VOTE, a fitted flag, the expiry of a grant
timer (R118, R119) and a ticket closed (R126); and UNFREEZE with what each pin is driven to (R5, R17 to R21). -/

namespace Sys2Proof.Machine

/-! ## The three ends of a bringing -/

section
variable {s : State} {c : Control}

/-- Where the requested state is the one in force, a bringing does nothing (R160). -/
theorem bring_of_requested (h : s.running = true) (hq : s.ctl.requested = s.ctl.op) : s.bring = s := by
  refine bring_of_same ?_
  rw [State.broughtTo, if_neg, hq]
  exact fun hp => ne_parked_of_running h (hq.symm.trans hp.1)

/-- A bringing with the votes and flags as they stand, where it does not arrive at PARKED (R159, R160). -/
theorem bring_not_parked (h : s.running = true) (hq : s.ctl.requested = .parked → s.heldBack = true) :
    s.bring = s.broughtRunning s.ctl := bring_eq_broughtRunning (c := s.ctl) h rfl hq

theorem not_held_of_not_heldBack (h : s.heldBack = false) (z : Fin 8) : (s.tickets.holds.get z).state ≠ .held := by
  rw [free_of_not_heldBack h z]
  exact HoldState.noConfusion

/-- A bringing that arrives at PARKED with nothing outstanding is the entry that `Parking` spells (R161). -/
theorem parking_bring_iff (h : s.running = true) (hp : s.ctl.requested = .parked) (hh : s.heldBack = false)
    (ho : s.outstanding = false) (P : State → Prop) : s.Parking P ↔ P s.bring := by
  have hto : s.broughtTo = .parked := by rw [State.broughtTo, hh, if_neg (by simp), hp]
  rw [parking_iff h ho (not_held_of_not_heldBack hh), bring_of_parked h hto]

/-! ## What an entry to PARKED leaves -/

theorem anySelected_of_ports {t : State} (h : t.ports = s.ports) : t.anySelected = s.anySelected := by
  rw [State.anySelected, State.anySelected, h]

@[simp] theorem foldl_takeReportIf_ports (l : List (Fin 8)) (s : State) :
    (l.foldl State.takeReportIf s).ports = s.ports := by rw [foldl_takeReportIf_eq]

/-- A window end leaves the chip selects, though not the cursors (R35). -/
@[simp] theorem endWindowIf_anySelected (s : State) : s.endWindowIf.anySelected = s.anySelected := by
  unfold State.endWindowIf
  split
  · rw [State.anySelected, endWindow_ports]
    rfl
  · rfl

@[simp] theorem settle_anySelected (s : State) : s.settle.anySelected = s.anySelected := by
  rw [State.settle, endWindowIf_anySelected, anySelected_of_ports (foldl_takeReportIf_ports _ s)]

@[simp] theorem closeEpoch_anySelected (s : State) : s.closeEpoch.anySelected = s.anySelected := by
  have hports : s.closeEpoch.ports = s.settle.ports := by
    simp [State.closeEpoch, State.countClose, State.restartCounters, State.countDownLoads]
  rw [anySelected_of_ports hports, settle_anySelected]

/-- Device `u` after an entry to PARKED of device `s`: frozen, its epoch stopped, and parked unless a chip select was
asserted (R161, R163). -/
structure State.EntersPark (s u : State) : Prop where
  frozen : u.pins.frozen = true
  stopped : u.pacer.ms = 0
  op : u.ctl.op = if s.anySelected then .active else .parked

/-- The rest of the entry once the close is taken (R161, R163). -/
theorem entered_frozen {v u : State} (hm : v.pacer.ms = 0)
    (hu : u = if v.enterParked.anySelected then v.enterParked.wake else v.enterParked) : v.EntersPark u := by
  have hsel : v.enterParked.anySelected = v.anySelected := anySelected_of_ports rfl
  rw [hsel] at hu
  subst hu
  cases hv : v.anySelected
  · exact ⟨rfl, hm, by rw [hv]; rfl⟩
  · exact ⟨rfl, rfl, by rw [hv]; rfl⟩

theorem parkEntry_frozen (s : State) : s.EntersPark s.parkEntry := by
  have hms : s.settle.parkMarked.closeEpoch.settle.pacer.ms = 0 := by rw [settle_pacer, closeEpoch_ms]
  have hsel : s.settle.parkMarked.closeEpoch.settle.anySelected = s.anySelected := by
    rw [settle_anySelected, closeEpoch_anySelected, anySelected_of_ports (State.parkMarked_ports _), settle_anySelected]
  obtain ⟨hfrozen, hstopped, hop⟩ := entered_frozen (u := s.parkEntry) hms rfl
  exact ⟨hfrozen, hstopped, hsel ▸ hop⟩

end

/-! ## Votes and fitted flags -/

theorem voteOf_of_mem : ∀ x ∈ [(0, Vote.run), (1, .pause), (2, .park)], voteOf x.1 = some x.2 := by decide

theorem flagOf_of_mem : ∀ x ∈ [(0, false), (1, true)], flagOf x.1 = some x.2 := by decide

theorem heldBack_iff (s : State) : s.heldBack = true ↔
    (∃ t ∈ s.tickets.table, t.state = .awaiting ∨ t.state = .working) ∨
    ∃ z, (s.tickets.holds.get z).state ≠ .free := by
  simp only [State.heldBack, Bool.or_eq_true, List.any_eq_true, Table.any_iff, Ticket.active_iff, bne_iff_ne]

/-- A VOTE in its range (R156). -/
theorem voteEffect_eq {p : Port} {val : Word} {v : Vote} {r : State}
    (hv : (val.toNat, v) ∈ [(0, Vote.run), (1, .pause), (2, .park)]) :
    voteEffect p val r = answered (State.bring { r with ctl := { r.ctl with votes := r.ctl.votes.set p v } })
      (State.bring { r with ctl := { r.ctl with votes := r.ctl.votes.set p v } }).ctl.op.code := by
  rw [voteEffect, voteOf_of_mem _ hv, orBadArg_some]

/-- A write of a fitted flag in its range (R157). -/
theorem setFittedFlagEffect_eq {side : Side} {val : Word} {b : Bool} {r : State}
    (hb : (val.toNat, b) ∈ [(0, false), (1, true)]) :
    setFittedFlagEffect side val r = answered (State.bring { r with ctl := r.ctl.withFitted side b }) 0 := by
  rw [setFittedFlagEffect, flagOf_of_mem _ hb, orBadArg_some]

/-- Settles O24: a write that does not arrive at PARKED brings the operating state as `broughtRunning` says. -/
theorem voteBringsState : Obligations.VoteBringsState := by
  refine ⟨heldBack_iff, fun p s h => ⟨fun val v hv hq => any_answered h ?_, fun val hv => any_declined h ?_,
    fun hp val b hb => ?_⟩⟩
  · rw [voteEffect_eq hv, bring_eq_broughtRunning (received_running h) (by rfl) hq, answered]
  · rw [voteEffect, voteOf_none hv, orBadArg_none']
  · subst hp
    refine ⟨fun hq => maintenance_answered h ?_, fun hq => maintenance_answered h ?_⟩
    all_goals
      rw [setFittedFlagEffect_eq hb]
      exact congrArg (answered · 0) (bring_eq_broughtRunning (received_running h) (by rfl) hq)

/-- Votes and flags written that arrive at PARKED: the bringing is the entry (R160, R161). -/
theorem parking_of_written {r : State} {c : Control} (hr : r.running = true) (hop : c.op = r.ctl.op)
    (hc : c.requested = .parked ∧ r.heldBack = false ∧ r.outstanding = false) (P : State → Prop) :
    State.Parking { r with ctl := c } P ↔ P (State.bring { r with ctl := c }) := by
  obtain ⟨hp, hh, ho⟩ := hc
  exact parking_bring_iff (s := { r with ctl := c }) (by rwa [State.running, hop]) hp hh ho P

/-- The operating state that such a bringing ends in (R161, R163). -/
theorem op_of_written {r : State} {c : Control} (hr : r.running = true) (hop : c.op = r.ctl.op)
    (hc : c.requested = .parked ∧ r.heldBack = false ∧ r.outstanding = false) :
    (State.bring { r with ctl := c }).ctl.op = if r.anySelected then .active else .parked := by
  obtain ⟨hp, hh, -⟩ := hc
  have hh' : State.heldBack { r with ctl := c } = false := hh
  have hto : State.broughtTo { r with ctl := c } = .parked := by
    rw [State.broughtTo, hh', if_neg (fun h => Bool.false_ne_true h.2)]
    exact hp
  rw [bring_of_parked (by rwa [State.running, hop]) hto, (parkEntry_frozen _).op]
  rfl

/-- Settles O25: a write that arrives at PARKED is the entry, and its answer the state after it. -/
theorem parkEntry : Obligations.ParkEntry := by
  intro p s h
  have hr := received_running h
  refine ⟨fun hc => (parking_of_written hr (by rfl) hc _).mpr (any_answered h ?_), fun hp val b hb => ?_⟩
  · rw [voteEffect_eq (v := .park) (by decide), op_of_written hr (by rfl) hc, State.anySelected]
    cases (s.received p).ports.a.select || (s.received p).ports.b.select || (s.received p).ports.m.select <;> rfl
  · subst hp
    refine ⟨fun hc => (parking_of_written hr (by rfl) hc _).mpr (maintenance_answered h ?_),
      fun hc => (parking_of_written hr (by rfl) hc _).mpr (maintenance_answered h ?_)⟩
    all_goals
      rw [setFittedFlagEffect_eq hb]
      rfl

/-! ## Demands lowered -/

/-- A notice box at a port that is told of something if it owns the zone (R143). -/
def NoticeBox.told (b : NoticeBox) (owns : Bool) (set : NoticeSet) : NoticeBox :=
  if owns then { b with events := b.events ||| set } else b

/-- A notice raised at a zone's owners, port by port (R143). -/
theorem raiseOwners_notices (s : State) (n : Notice) (z : Fin 8) : (s.raiseOwners n z).notices =
    ⟨s.notices.a.told ((s.owner z).has .a) n.bit, s.notices.b.told ((s.owner z).has .b) n.bit, s.notices.m⟩ := by
  unfold State.raiseOwners NoticeBox.told
  cases (s.owner z).has .a <;> cases (s.owner z).has .b <;> rfl

/-- The device whose zone is released, before the operating state is brought (R119). -/
def State.zoneFreed (s : State) (z : Fin 8) : State :=
  { s with
    notices := (s.raiseOwners .released z).notices
    tickets := { s.tickets with holds := s.tickets.holds.set z .cold } }

theorem lowerDemand_kept {s : State} {z : Fin 8} (h : 1 < (s.tickets.holds.get z).demand) :
    s.lowerDemand z = { s with tickets := { s.tickets with
      holds := s.tickets.holds.set z ({ s.tickets.holds.get z with
        demand := (s.tickets.holds.get z).demand - 1 }) } } := lowerDemand_left h

theorem release_eq (s : State) (z : Fin 8) : s.release z = (s.zoneFreed z).bring := by
  have hfreed : (s.mapHold z fun _ => .cold).raiseOwners .released z = s.zoneFreed z := by
    rw [raiseOwners_eq, raiseOwners_notices, State.zoneFreed, raiseOwners_notices]
    rfl
  rw [State.release, hfreed]

/-- The demand that a zone released had is gone with its hold record (R119). -/
theorem zoneFreed_mapHold (s : State) (z : Fin 8) (f : HoldRecord → HoldRecord) :
    (s.mapHold z f).zoneFreed z = s.zoneFreed z := by
  have hset : (s.tickets.holds.modify z f).set z .cold = s.tickets.holds.set z .cold :=
    Table.modify_modify s.tickets.holds z f fun _ => .cold
  rw [State.zoneFreed, raiseOwners_notices, State.mapHold_tickets, hset, State.zoneFreed, raiseOwners_notices]
  rfl

theorem lowerDemand_freed {s : State} {z : Fin 8} (h : (s.tickets.holds.get z).demand = 1) :
    s.lowerDemand z = (s.zoneFreed z).bring := by
  rw [lowerDemand_last (Nat.le_of_eq h), release_eq, zoneFreed_mapHold]

section
variable {s u : State} {o : Host.Outcome State Fault Refusal} {f : State → State}

/-- A device that releases a zone and brings its operating state, by where the bringing arrives (R119, R159 to R161). -/
theorem freed_rows (hr : s.running = true) (hc : u.ctl = s.ctl) (ho : u.outstanding = s.outstanding)
    (hexec : o = .next (f u.bring)) :
    (s.ctl.requested = s.ctl.op → o = .next (f u)) ∧
    ((s.ctl.requested = .parked → u.heldBack = true) → o = .next (f (u.broughtRunning s.ctl))) ∧
    (s.ctl.requested = .parked → u.heldBack = false → s.outstanding = false → u.Parking fun v => o = .next (f v)) := by
  have hr' : u.running = true := by rwa [State.running, hc]
  refine ⟨fun hq => ?_, fun hq => ?_, fun hp hh hout => ?_⟩
  · rwa [bring_of_requested hr' (by rwa [hc])] at hexec
  · rwa [bring_not_parked hr' (by rwa [hc]), hc] at hexec
  · exact (parking_bring_iff hr' (by rwa [hc]) hh (ho.trans hout) _).mpr hexec

end

/-! ## The expiry of a grant timer -/

/-- The device whose ticket has stalled, before its zone's demand is lowered (R118). -/
def State.ticketStalled (s : State) (t : Ticket) : State :=
  { s with
    notices := ((s.raiseAt .stall .m).raiseOwners .stall t.zone).notices
    tickets := { s.tickets with
      table := s.tickets.table.map fun u => if u.number = t.number then u.enterStalled else u } }

theorem expireTicket_eq (s : State) (t : Ticket) : s.expireTicket t = (s.ticketStalled t).lowerDemand t.zone := by
  have hstalled : ((s.mapTicket t.number Ticket.enterStalled).raiseAt .stall .m).raiseOwners .stall t.zone =
      s.ticketStalled t := by
    rw [raiseOwners_eq, raiseOwners_notices, State.ticketStalled, raiseOwners_notices]
    rfl
  rw [State.expireTicket, hstalled]

theorem expireNumber_awaiting {s : State} {n : Nat} {t : Ticket} (hr : s.running = true) (ht : s.ticket? n = some t)
    (ha : t.state = .awaiting) : s.expireNumber n = s.expireTicket t := by
  rw [State.expireNumber, ht]
  simp [hr, ha]

theorem expireNumber_none {s : State} {n : Nat} (h : ∀ t, s.ticket? n = some t → t.state ≠ .awaiting) :
    s.expireNumber n = s := by
  unfold State.expireNumber
  split
  · rename_i t ht
    simp [h t ht]
  · rfl

theorem ticketStalled_eq {s : State} {t : Ticket} {k : Nat} (hk : t.number = k) : s.ticketStalled t = { s with
    notices := ⟨s.notices.a.told ((s.owner t.zone).has .a) 0x0080, s.notices.b.told ((s.owner t.zone).has .b) 0x0080,
      s.notices.m.told true 0x0080⟩
    tickets := { s.tickets with
      table := s.tickets.table.map fun u => if u.number = k then u.enterStalled else u } } := by
  rw [State.ticketStalled, raiseOwners_notices, hk]
  rfl

theorem ticketStalled_zoneFreed {s : State} {t : Ticket} {k : Nat} (hk : t.number = k) :
    (s.ticketStalled t).zoneFreed t.zone = { s with
      notices := ⟨(s.notices.a.told ((s.owner t.zone).has .a) 0x0080).told ((s.owner t.zone).has .a) 0x0040,
        (s.notices.b.told ((s.owner t.zone).has .b) 0x0080).told ((s.owner t.zone).has .b) 0x0040,
        s.notices.m.told true 0x0080⟩
      tickets := { s.tickets with
        table := s.tickets.table.map fun u => if u.number = k then u.enterStalled else u
        holds := s.tickets.holds.set t.zone .cold } } := by
  rw [State.zoneFreed, raiseOwners_notices, ticketStalled_eq hk]
  rfl

/-- The last demand of its zone falls with its ticket: no ticket then counts (R106, R108). -/
theorem activeIn_freed {s : State} {n : Nat} {t : Ticket} (h : s.TicketsAgree) (ht : s.ticket? n = some t)
    (ha : t.state = .awaiting) (hd : (s.tickets.holds.get t.zone).demand = 1)
    (hfree : ∀ z, z ≠ t.zone → (s.tickets.holds.get z).state = .free) :
    ((s.ticketStalled t).zoneFreed t.zone).heldBack = false := by
  obtain ⟨-, hnodup, -, hagree, hholds, -⟩ := h
  obtain ⟨-, l₁, l₂, htable, hmap, -⟩ := ticket?_split ht hnodup
  have hactive : t.active = true := Ticket.active_iff.mpr (.inl ha)
  have hone : activeCount (l₁ ++ t :: l₂) t.zone = 1 := by
    rw [← htable, ← hd]
    exact (hholds t.zone).1.symm
  have hnone : ∀ u ∈ l₁ ++ l₂, u.active = false := by
    intro u hu
    have hmem : u ∈ s.tickets.table := by
      rw [htable]
      exact (List.mem_append.mp hu).elim (List.mem_append_left _) fun h =>
        List.mem_append_right _ (List.mem_cons_of_mem _ h)
    by_contra hua
    have hua : u.active = true := by simpa using hua
    obtain ⟨-, -, hworking, hawaiting, -⟩ := hagree u hmem
    have hzone : u.zone = t.zone := by
      by_contra hz
      obtain hs | hs := Ticket.active_iff.mp hua
      · exact HoldState.noConfusion ((hfree _ hz).symm.trans (hawaiting hs))
      · exact HoldState.noConfusion ((hfree _ hz).symm.trans (hworking hs))
    rw [activeCount_split, if_pos ⟨rfl, hactive⟩, Nat.add_eq_right, activeCount, List.countP_eq_zero] at hone
    exact hone u hu (by simp [hzone, hua])
  have htable' : ((s.ticketStalled t).zoneFreed t.zone).tickets.table = l₁ ++ t.enterStalled :: l₂ := hmap _
  have hholds' : ((s.ticketStalled t).zoneFreed t.zone).tickets.holds = s.tickets.holds.set t.zone .cold := rfl
  rw [← Bool.not_eq_true, heldBack_iff, htable', hholds']
  rintro (⟨u, hu, hs⟩ | ⟨z, hz⟩)
  · have hua := Ticket.active_iff.mpr hs
    rcases List.mem_append.mp hu with hu | hu
    · exact Bool.false_ne_true ((hnone u (List.mem_append_left _ hu)).symm.trans hua)
    · rcases List.mem_cons.mp hu with rfl | hu
      · exact Bool.false_ne_true hua
      · exact Bool.false_ne_true ((hnone u (List.mem_append_right _ hu)).symm.trans hua)
  · rw [Table.get_set] at hz
    split at hz
    · exact hz rfl
    · rename_i hne
      exact hz (hfree z hne)

/-- Settles O34: the stalled ticket, and the demand that is left or the zone that is released. -/
theorem expiryStalls : Obligations.ExpiryStalls := by
  refine ⟨fun number s hr => ⟨fun h => congrArg Host.Outcome.next (expireNumber_none h), fun t ht ha => ?_⟩,
    fun number s hr hagree hp t ht ha hd hfree => ?_⟩
  all_goals
    have hexec : exec (.grantTimerExpiry number) s = .next ((s.ticketStalled t).lowerDemand t.zone) :=
      congrArg Host.Outcome.next ((expireNumber_awaiting hr ht ha).trans (expireTicket_eq s t))
  · have hstalled := ticketStalled_eq (mem_of_ticket? ht).2 (s := s)
    have hfreed := ticketStalled_zoneFreed (mem_of_ticket? ht).2 (s := s)
    refine ⟨fun hd => ?_, ?_⟩
    · rw [hexec, lowerDemand_kept (s := s.ticketStalled t) hd, hstalled]
      rfl
    · have hrows (hd : (s.tickets.holds.get t.zone).demand = 1) := freed_rows (f := fun u => u)
        (u := (s.ticketStalled t).zoneFreed t.zone) hr rfl rfl
        (hexec.trans (congrArg Host.Outcome.next (lowerDemand_freed (s := s.ticketStalled t) hd)))
      rw [hfreed] at hrows
      exact ⟨fun hd => (hrows hd).1, fun hd => (hrows hd).2.1, fun hd => (hrows hd).2.2⟩
  · rw [lowerDemand_freed (s := s.ticketStalled t) hd, bring_of_parked (s := (s.ticketStalled t).zoneFreed t.zone) hr
      (by rw [State.broughtTo, activeIn_freed hagree ht ha hd hfree,
          if_neg (fun h => Bool.false_ne_true h.2)]; exact hp)] at hexec
    obtain ⟨hfrozen, hms, hop⟩ := parkEntry_frozen ((s.ticketStalled t).zoneFreed t.zone)
    exact ⟨_, hexec, hfrozen, hms, hop⟩

/-! ## A ticket closed -/

/-- The NOT-DONE records of a close, each said whole (R137). -/
theorem foldl_logNotDone_logged (ticket : Nat) (l : List (Fin 64)) {s r : State} (h : s.elements = r.elements) :
    l.foldl (State.logNotDone ticket) s = l.foldl (fun u e =>
      u.logged e ticket .notDone (r.elements.get e).wear (r.elements.get e).renewCount) s := by
  induction l generalizing s with
  | nil => rfl
  | cons e l ih =>
    rw [List.foldl_cons, List.foldl_cons, State.logNotDone, appendLog_eq_logged, h]
    exact ih h

/-- The device whose ticket `k` is gone from the table, its NOT-DONE records appended, which `l` has (R126). -/
def State.ticketRemoved (s l : State) (k : Nat) : State :=
  { l with tickets := { s.tickets with table := s.tickets.table.filter fun u => u.number ≠ k } }

theorem closeTicket_eq {s l : State} {t : Ticket} {k : Nat} (hk : t.number = k)
    (hl : t.notDone.foldl (State.logNotDone k) s = l) :
    s.closeTicket t = if t.active then (s.ticketRemoved l k).lowerDemand t.zone else s.ticketRemoved l k := by
  have htickets : l.tickets = s.tickets := by rw [← hl, foldl_logNotDone_eq]
  have hfilter : (fun u : Ticket => u.number != k) = fun u => decide (u.number ≠ k) :=
    funext fun u => (decide_not (p := u.number = k)).symm
  rw [State.closeTicket, hk, hl, htickets, hfilter]
  rfl

theorem ticketRemoved_zoneFreed {s l : State} {k : Nat} {z : Fin 8} (hn : l.notices = s.notices)
    (hb : l.book = s.book) :
    (s.ticketRemoved l k).zoneFreed z = { l with
      notices := ⟨s.notices.a.told ((s.owner z).has .a) 0x0040, s.notices.b.told ((s.owner z).has .b) 0x0040,
        s.notices.m⟩
      tickets := { s.tickets with
        table := s.tickets.table.filter fun u => u.number ≠ k
        holds := s.tickets.holds.set z .cold } } := by
  have ho : (s.ticketRemoved l k).owner z = s.owner z := congrArg (fun b : LoadBook => (b.zones.get z).owner) hb
  have hn' : (s.ticketRemoved l k).notices = s.notices := hn
  rw [State.zoneFreed, raiseOwners_notices, ho, hn']
  rfl

section
variable {s l : State} {sel : Byte} {t : Ticket}

theorem close_rows (h : s.Taking .m) (ht : (s.received .m).ticket? sel.toNat = some t)
    (hl : t.notDone.foldl (State.logNotDone sel.toNat) (s.received .m) = l) :
    let r : State := s.received .m
    let h := r.tickets.holds.get t.zone
    let table := r.tickets.table.filter fun u : Ticket => u.number ≠ sel.toNat
    let freed : State := { l with
      notices := ⟨r.notices.a.told ((r.owner t.zone).has .a) 0x0040, r.notices.b.told ((r.owner t.zone).has .b) 0x0040,
        r.notices.m⟩
      tickets := { r.tickets with
        table := table
        holds := r.tickets.holds.set t.zone .cold } }
    (t.state = .planned ∨ t.state = .stalled → exec (.closeTicket .m sel) s =
      .next ({ l with tickets := { r.tickets with table := table } }.answering .m 0x35 .done t.notDone.length)) ∧
    (t.state = .awaiting ∨ t.state = .working → 1 < h.demand → exec (.closeTicket .m sel) s =
      .next ({ l with tickets := { r.tickets with
        table := table
        holds := r.tickets.holds.set t.zone { h with demand := h.demand - 1 } } }.answering .m 0x35 .done
          t.notDone.length)) ∧
    (t.state = .awaiting ∨ t.state = .working → h.demand = 1 → r.ctl.requested = r.ctl.op →
      exec (.closeTicket .m sel) s = .next (freed.answering .m 0x35 .done t.notDone.length)) ∧
    (t.state = .awaiting ∨ t.state = .working → h.demand = 1 →
      (r.ctl.requested = .parked → freed.heldBack = true) → exec (.closeTicket .m sel) s =
        .next ((freed.broughtRunning r.ctl).answering .m 0x35 .done t.notDone.length)) ∧
    (t.state = .awaiting ∨ t.state = .working → h.demand = 1 → r.ctl.requested = .parked → freed.heldBack = false →
      r.outstanding = false → freed.Parking fun u => exec (.closeTicket .m sel) s =
        .next (u.answering .m 0x35 .done t.notDone.length)) := by
  intro r h' table freed
  have hkept := foldl_logNotDone_eq sel.toNat t.notDone r
  rw [hl] at hkept
  have hexec : exec (.closeTicket .m sel) s = .next ((r.closeTicket t).answering .m 0x35 .done t.notDone.length) := by
    refine maintenance_answered h ?_
    rw [closeTicketEffect, withTicket_some ht, answered]
  rw [closeTicket_eq (mem_of_ticket? ht).2 hl] at hexec
  have hactive (ha : t.state = .awaiting ∨ t.state = .working) : t.active = true := Ticket.active_iff.mpr ha
  have hfreed : (r.ticketRemoved l sel.toNat).zoneFreed t.zone = freed :=
    ticketRemoved_zoneFreed (by rw [hkept]) (by rw [hkept])
  have hbrought (ha : t.state = .awaiting ∨ t.state = .working) (hd : h'.demand = 1) :
      exec (.closeTicket .m sel) s = .next (freed.bring.answering .m 0x35 .done t.notDone.length) := by
    rw [hexec, if_pos (hactive ha), lowerDemand_freed (s := r.ticketRemoved l sel.toNat) hd, hfreed]
  have hrows (ha : t.state = .awaiting ∨ t.state = .working) (hd : h'.demand = 1) :=
    freed_rows (u := freed) (f := fun u => u.answering .m 0x35 .done t.notDone.length) (received_running h)
      (show l.ctl = r.ctl by rw [hkept])
      (show (r.tickets.reports.any (fun b => b) || l.window.remaining = 0) = r.outstanding by rw [hkept]; rfl)
      (hbrought ha hd)
  refine ⟨fun hs => ?_, fun ha hd => ?_, fun ha hd => (hrows ha hd).1, fun ha hd => (hrows ha hd).2.1,
    fun ha hd => (hrows ha hd).2.2⟩
  · rw [hexec, if_neg]
    · rfl
    · intro ha
      obtain ha | ha := Ticket.active_iff.mp ha <;> simp [ha] at hs
  · rw [hexec, if_pos (hactive ha), lowerDemand_kept (s := r.ticketRemoved l sel.toNat) hd]
    rfl

end

/-- Settles O38: the ticket gone with its NOT-DONE records, and the demand that is left or the zone that is released. -/
theorem closeTicketRemoves : Obligations.CloseTicketRemoves := by
  intro sel s h
  refine ⟨fun ht => maintenance_declined h ?_, fun t ht => ?_⟩
  · rw [closeTicketEffect, withTicket_none ht]
  · exact close_rows h ht (foldl_logNotDone_logged _ _ rfl)

/-! ## The drive of a pin -/

section
variable {s : State} {i : Fin 24}

theorem beaconLit_iff (s : State) (z : Fin 8) : s.beaconLit z = true ↔
    (∃ t ∈ s.tickets.table, t.zone = z ∧ t.state = .working) ∨
      (∃ n, (s.elements.get n).zone = z ∧ (s.elements.get n).state = .due) ∧ s.blink < 500 := by
  simp [State.beaconLit, State.workingIn, State.dueIn, Table.any_iff]

theorem holdAsserted_iff (s : State) (l : Line) : s.holdAsserted l = true ↔
    (s.tickets.holds.get l.zone).state ≠ .free ∧ (s.owner l.zone).has l.side = true := by
  simp [State.holdAsserted]

/-- Outside RETAINED an unfrozen pin follows its settings (R5). -/
theorem pinDrive_unfrozen (hr : s.ctl.op ≠ .retained) (hf : s.pins.frozen = false) :
    s.pinDrive i = s.settingsDrive (s.lines.get i) := by
  rw [State.pinDrive, if_neg hr, hf]
  rfl

/-- The drive of a line by its function (R5, R17, R18). -/
theorem settingsDrive_hold {l : Line} (hf : l.float = false) (h : l.function = .hold) :
    s.settingsDrive l = some (l.levelFor (s.holdAsserted l)) := by
  simp [State.settingsDrive, h, hf]

theorem settingsDrive_lamp {l : Line} (hf : l.float = false) (h : l.function = .lamp) :
    s.settingsDrive l = some (l.levelFor (s.beaconLit l.zone)) := by
  simp [State.settingsDrive, h, hf]

theorem settingsDrive_none {l : Line} (h : l.function = .tach ∨ l.function = .gate ∨
    (l.function = .plain ∧ l.direction = .input) ∨ l.float = true) : s.settingsDrive l = none := by
  rcases h with h | h | ⟨h, hd⟩ | h
  · simp [State.settingsDrive, h]
  · simp [State.settingsDrive, h]
  · simp [State.settingsDrive, h, hd]
  · cases hf : l.function <;> simp [State.settingsDrive, hf, h]

theorem unfrozen_drives (hr : s.ctl.op ≠ .retained) (hz : s.pins.frozen = false) :
    let l := s.lines.get i
    let asserted := (s.tickets.holds.get l.zone).state ≠ .free ∧ (s.owner l.zone).has l.side = true
    let working := ∃ t ∈ s.tickets.table, t.zone = l.zone ∧ t.state = .working
    let due := ∃ n, (s.elements.get n).zone = l.zone ∧ (s.elements.get n).state = .due
    (l.function = .tach ∨ l.function = .gate ∨ (l.function = .plain ∧ l.direction = .input) ∨ l.float = true →
      s.pinDrive i = none) ∧
    (l.float = false → l.function = .plain → l.direction = .output → s.pinDrive i = some l.level) ∧
    (l.float = false → l.function = .hold → asserted → s.pinDrive i = some l.polarity) ∧
    (l.float = false → l.function = .hold → ¬asserted → s.pinDrive i = some !l.polarity) ∧
    (l.float = false → l.function = .lamp → (working ∨ (due ∧ s.blink < 500)) → s.pinDrive i = some l.polarity) ∧
    (l.float = false → l.function = .lamp → ¬(working ∨ (due ∧ s.blink < 500)) → s.pinDrive i = some !l.polarity) := by
  rw [pinDrive_unfrozen hr hz]
  refine ⟨settingsDrive_none, fun hf h hd => ?_, fun hf h ha => ?_, fun hf h ha => ?_, fun hf h hl => ?_,
    fun hf h hl => ?_⟩
  · simp [State.settingsDrive, h, hd, hf]
  · rw [settingsDrive_hold hf h, (holdAsserted_iff s _).mpr ha]
    rfl
  · rw [settingsDrive_hold hf h, Bool.eq_false_iff.mpr (mt (holdAsserted_iff s _).mp ha)]
    rfl
  · rw [settingsDrive_lamp hf h, (beaconLit_iff s _).mpr hl]
    rfl
  · rw [settingsDrive_lamp hf h, Bool.eq_false_iff.mpr (mt (beaconLit_iff s _).mp hl)]
    rfl

theorem pinPullUp_eq (hr : s.ctl.op ≠ .retained) :
    s.pinPullUp i = ((s.lines.get i).isInput && (s.lines.get i).pullUp) := by
  rw [State.pinPullUp, bne_iff_ne.mpr hr, Bool.true_and]

end

/-- Settles O22: the freeze cleared, and the drive and the pull-up of each pin by function and setting. -/
theorem unfreezeAndPinDrive : Obligations.UnfreezeAndPinDrive := by
  refine ⟨fun p s h => ⟨fun hf => ⟨any_answered h ?_, fun i => ?_⟩, fun hf => any_answered h ?_⟩,
    fun s i => ⟨fun hr => if_pos hr, fun hr hf => ?_, fun hr hf => unfrozen_drives hr hf, fun hr => ?_,
      fun hr hf => ⟨fun h => ?_, fun h => ?_⟩⟩⟩
  · rw [unfreezeEffect, if_pos hf, answered]
  · have hr := received_ne_retained h
    exact pinDrive_unfrozen (s := State.answering { s.received p with pins := { (s.received p).pins with
      frozen := false
      held := .ofFn fun _ => none } } p 0x05 .done 0) hr rfl
  · rw [unfreezeEffect, hf, answered]
    rfl
  · rw [State.pinDrive, if_neg hr, if_pos hf]
  · simp [State.pinPullUp, hr]
  · rw [pinPullUp_eq hr]
    rcases h with h | h | ⟨h, hd⟩ <;> simp [Line.isInput, *]
  · rw [pinPullUp_eq hr]
    rcases h with h | h | ⟨h, hd⟩ <;> simp [Line.isInput, *]

end Sys2Proof.Machine

/-! PROOF. The Element Table's commands: SET-ELEMENT (R61 to R65, R83), ENABLE-ELEMENT and ACCEPT-ELEMENT (R66, R70),
DISABLE-ELEMENT and PRESET-WEAR (R68, R69), and RENEW and INSPECT (R123 to R125). -/

namespace Sys2Proof.Machine

/-! ## SET-ELEMENT -/

section
variable {s : State} {n : Fin 64} {effect : State → Taken} {f : Element → Element} {e' : Element}

theorem toNat_fieldValue {v : Nat} (h : v < 2 ^ 24) : (BitVec.ofNat 24 v).toNat = v :=
  BitVec.toNat_ofNat _ _ ▸ Nat.mod_eq_of_lt h

theorem setElementWith_some {α : Type} {value : Option α} {v : α} (n : Fin 64) (hv : value = some v)
    (store : Fin 64 → α → State → Taken) (r : State) :
    setElementWith (BitVec.ofNat 8 n.val) value store r = store n v r := by
  rw [setElementWith, finOf_ofNat n (by decide), orBadArg_some, hv, orBadArg_some]

/-- SET-ELEMENT of a field that is not L or M: nothing, or the record with its check word (R61). -/
theorem storeField_rows (h : s.Taking .m) (he : effect (s.received .m) = storeField n f (s.received .m))
    (hf : f ((s.received .m).elements.get n) = e') :
    let r : State := s.received .m
    (e' = r.elements.get n → (.next (s.frameCommand .m 0x21 effect) : Host.Outcome State Fault Refusal) =
      .next (r.answering .m 0x21 .done 0)) ∧
    (e' ≠ r.elements.get n → (.next (s.frameCommand .m 0x21 effect) : Host.Outcome State Fault Refusal) =
      .next ({ r with elements := r.elements.set n { e' with check := e'.sum n } }.answering .m 0x21 .done 0)) := by
  refine ⟨fun hsame => maintenance_answered h ?_, fun hother => maintenance_answered h ?_⟩
  · rw [he, storeField, hf, if_pos hsame, answered]
  · rw [he, storeField, hf, if_neg hother]
    rfl

/-- SET-ELEMENT of L or M: nothing, the record stored, or the record derived again (R64). -/
theorem storeLimit_rows (h : s.Taking .m) (he : effect (s.received .m) = storeLimit n f (s.received .m))
    (hf : f ((s.received .m).elements.get n) = e') :
    let r : State := s.received .m
    let e := r.elements.get n
    let derived : Element := { e' with
      state := derivedState e'.wear e'.limit e'.margin
      projection := projectionOf e'.wear e'.limit e'.rate }
    (e' = e → (.next (s.frameCommand .m 0x21 effect) : Host.Outcome State Fault Refusal) =
      .next (r.answering .m 0x21 .done 0)) ∧
    (e' ≠ e → (e.state = .idle ∨ e.state = .suspect) →
      (.next (s.frameCommand .m 0x21 effect) : Host.Outcome State Fault Refusal) =
        .next ({ r with elements := r.elements.set n { e' with check := e'.sum n } }.answering .m 0x21 .done 0)) ∧
    (e' ≠ e → e.state ≠ .idle → e.state ≠ .suspect →
      (.next (s.frameCommand .m 0x21 effect) : Host.Outcome State Fault Refusal) =
        .next ((r.restated n { derived with check := derived.sum n }).answering .m 0x21 .done 0)) := by
  refine ⟨fun hsame => maintenance_answered h ?_, fun hother hs => maintenance_answered h ?_,
    fun hother hi hs => maintenance_answered h ?_⟩ <;> rw [he, storeLimit, hf]
  · rw [if_pos hsame, answered]
  · have hnot : ((s.received .m).elements.get n).accounted = false := by
      rcases hs with hs | hs <;> simp [Element.accounted, hs]
    rw [if_neg hother, hnot]
    rfl
  · have hacc : ((s.received .m).elements.get n).accounted = true := by simp [Element.accounted, hi, hs]
    rw [if_neg hother, hacc, if_pos rfl, restateElement_eq_restated]
    rfl

end

section
variable (e : Element) (v : Nat)

/-- A field whose change resets Q, in the words of the record that it leaves (R62). -/
theorem tachWritten_eq : (if e.tach = v then e else { e with tach := v, residue := 0 }) =
    { e with tach := v, residue := if e.tach = v then e.residue else 0 } := by
  by_cases h : e.tach = v
  · rw [if_pos h, if_pos h, ← h]
  · rw [if_neg h, if_neg h]

theorem pprWritten_eq : (if e.ppr = v then e else { e with ppr := v, residue := 0 }) =
    { e with ppr := v, residue := if e.ppr = v then e.residue else 0 } := by
  by_cases h : e.ppr = v
  · rw [if_pos h, if_pos h, ← h]
  · rw [if_neg h, if_neg h]

theorem ratioWritten_eq : (if e.ratio = v then e else { e with ratio := v, residue := 0 }) =
    { e with ratio := v, residue := if e.ratio = v then e.residue else 0 } := by
  by_cases h : e.ratio = v
  · rw [if_pos h, if_pos h, ← h]
  · rw [if_neg h, if_neg h]

theorem referenceWritten_line {v : Nat} (h : v ≤ 23) : referenceWritten v = some (some v) := if_pos h

theorem referenceWritten_absent {v : Nat} (h : v = 255) : referenceWritten v = some none := by
  rw [h]
  rfl

/-- The sum of R83, spelled. -/
theorem sum_spelled (n : Fin 64) : e.sum n = (n.val + e.zone.val + e.tach + e.ppr + e.ratio + e.expected + e.tolerance +
    e.slipWeight + e.reference.getD 255 + e.limit % 65536 + e.limit / 65536 % 65536 + e.margin % 65536 +
    e.margin / 65536 % 65536 + e.wear % 65536 + e.wear / 65536 % 65536) % 65536 := by
  have href : referenceCode e.reference = e.reference.getD 255 := by cases e.reference <;> rfl
  rw [Element.sum, halves, halves, halves, href]
  congr 1
  omega

end

/-- Settles O46: the sum, and each field by its operand and the record that a write of it leaves. -/
theorem elementFieldStored : Obligations.ElementFieldStored := by
  refine ⟨sum_spelled, fun n v s h hv => ?_⟩
  have hn := toNat_fieldValue hv
  refine ⟨fun hr => storeField_rows (f := fun e => if e.tach = v then e else { e with tach := v, residue := 0 }) h ?_
      (tachWritten_eq _ v),
    fun hlo hhi => storeField_rows (f := fun e => if e.ppr = v then e else { e with ppr := v, residue := 0 }) h ?_
      (pprWritten_eq _ v),
    fun hlo hhi => storeField_rows (f := fun e => if e.ratio = v then e else { e with ratio := v, residue := 0 }) h ?_
      (ratioWritten_eq _ v),
    fun hr => storeField_rows (f := fun e => { e with reference := some v }) h ?_ rfl,
    fun hr => storeField_rows (f := fun e => { e with reference := none }) h ?_ rfl,
    fun hlo hhi => storeField_rows (f := fun e => { e with expected := v }) h ?_ rfl,
    fun hr => storeField_rows (f := fun e => { e with tolerance := max 1 v }) h ?_ rfl,
    fun hr => storeField_rows (f := fun e => { e with slipWeight := max 16 v }) h ?_ rfl,
    fun z hz => ⟨fun hb => maintenance_declined h ?_,
      fun hb => storeField_rows (f := fun e => { e with zone := z }) h ?_ rfl⟩⟩
  · exact setElementWith_some n (hn.symm ▸ within_some (Nat.zero_le _) hr) _ _
  · exact setElementWith_some n (hn.symm ▸ within_some hlo hhi) _ _
  · exact setElementWith_some n (hn.symm ▸ within_some hlo hhi) _ _
  · exact setElementWith_some n (hn.symm ▸ referenceWritten_line hr) _ _
  · exact setElementWith_some n (hn.symm ▸ referenceWritten_absent hr) _ _
  · exact setElementWith_some n (hn.symm ▸ within_some hlo hhi) _ _
  · exact setElementWith_some n (hn.symm ▸ clampedUp_some hr) _ _
  · exact setElementWith_some n (hn.symm ▸ clampedUp_some hr) _ _
  · exact (setElementWith_some n (hn.symm ▸ hz ▸ finOf_val z) _ _).trans (if_pos hb)
  · exact (setElementWith_some n (hn.symm ▸ hz ▸ finOf_val z) _ _).trans (if_neg (by simp [hb]))

/-- Settles O47: L and M by their operand. -/
theorem limitAndMarginStored : Obligations.LimitAndMarginStored := by
  intro n v s h hv
  have hn := toNat_fieldValue (v := v) (by omega)
  refine ⟨fun hlo => storeLimit_rows (f := fun e => { e with limit := v }) h ?_ rfl,
    storeLimit_rows (f := fun e => { e with margin := v }) h ?_ rfl⟩
  · exact setElementWith_some n (hn.symm ▸ within_some hlo hv) _ _
  · exact setElementWith_some n (hn.symm ▸ within_some (Nat.zero_le _) hv) _ _

/-! ## Elements taken in and out of the account -/

section
variable {e : Element}

/-- Every configuration field in the range that SET-ELEMENT accepts, spelled (R66, R70). -/
theorem inRange_iff : e.inRange = true ↔ e.tach ≤ 23 ∧ 1 ≤ e.ppr ∧ e.ppr ≤ 255 ∧ 1 ≤ e.ratio ∧ e.ratio ≤ 4095 ∧
    (∀ l, e.reference = some l → l ≤ 23) ∧ e.expected ≤ 4095 ∧ 1 ≤ e.tolerance ∧ e.tolerance ≤ 255 ∧
    16 ≤ e.slipWeight ∧ e.slipWeight ≤ 255 ∧ 1 ≤ e.limit ∧ e.limit ≤ 1048575 ∧ e.margin ≤ 1048575 := by
  cases h : e.reference <;> simp [Element.inRange, h, and_assoc]

theorem projectionOf_rate_zero (wear limit : Nat) :
    projectionOf wear limit 0 = if limit * 4096 ≤ wear then 0 else 65535 := by
  rw [projectionOf, if_pos rfl]
  rfl

theorem enabled_eq (e : Element) (n : Fin 64) : e.enabled n =
    let enabled : Element := { e with
      carry := 0
      residue := 0
      accumulator := 0
      slipCount := 0
      unfed := false
      rate := 0
      seeded := false
      state := derivedState e.wear e.limit e.margin
      projection := if e.limit * 4096 ≤ e.wear then 0 else 65535 }
    { enabled with check := enabled.sum n } := by
  rw [← projectionOf_rate_zero]
  rfl

end

section
variable {s : State} {n : Fin 64}

/-- ENABLE-ELEMENT of an element that exists (R66). -/
theorem enableElementEffect_eq (n : Fin 64) (r : State) : enableElementEffect (BitVec.ofNat 8 n.val) r =
    if (r.elements.get n).inUse = true then declined r .already
    else if (r.elements.get n).inRange = false then declined r .incomplete
    else answered (r.restated n ((r.elements.get n).enabled n)) 0 := by
  rw [enableElementEffect, finOf_ofNat n (by decide), orBadArg_some, restateElement_eq_restated]
  simp only [Bool.not_eq_true']

/-- ACCEPT-ELEMENT of an element that exists (R70). -/
theorem acceptElementEffect_eq (n : Fin 64) (r : State) : acceptElementEffect (BitVec.ofNat 8 n.val) r =
    if (r.elements.get n).state ≠ .suspect then answered r 0
    else if (r.elements.get n).inRange = false then declined r .incomplete
    else answered (r.restated n ((r.elements.get n).accepted n)) 0 := by
  rw [acceptElementEffect, finOf_ofNat n (by decide), orBadArg_some, restateElement_eq_restated]
  simp only [Bool.not_eq_true']

end

/-- Settles O49: the refusals, and the record that either command leaves. -/
theorem enableAndAccept : Obligations.EnableAndAccept := by
  intro n s h
  refine ⟨fun hi => maintenance_declined h ?_, fun hi hc => maintenance_declined h ?_,
      fun hi hc => maintenance_answered h ?_,
    fun hs => maintenance_answered h ?_, fun hs hc => maintenance_declined h ?_, fun hs hc => maintenance_answered h ?_⟩
  · rw [enableElementEffect_eq, if_pos (inUse_iff.mpr hi)]
  · rw [enableElementEffect_eq, if_neg (by simp [inUse_iff, hi]),
      if_pos (Bool.eq_false_iff.mpr (mt inRange_iff.mp hc))]
  · rw [enableElementEffect_eq, if_neg (by simp [inUse_iff, hi]), if_neg (by simp [inRange_iff.mpr hc]), enabled_eq,
      answered]
  · rw [acceptElementEffect_eq, if_pos hs, answered]
  · rw [acceptElementEffect_eq, if_neg (not_not_intro hs), if_pos (Bool.eq_false_iff.mpr (mt inRange_iff.mp hc))]
  · rw [acceptElementEffect_eq, if_neg (not_not_intro hs), if_neg (by simp [inRange_iff.mpr hc])]
    rfl

/-- A record left in no state of R58 is replaced with the due list alone (R68, R98). -/
theorem restated_of_not_worn {s : State} {n : Fin 64} {e : Element} (h : e.state ≠ .worn) :
    s.restated n e = s.replanned (s.elements.set n e) s.plan.horizon := by
  rw [State.restated, if_neg fun hw => h hw.1]

/-- Settles O50: BUSY, the element out of use, and the wear preset. -/
theorem disableAndPreset : Obligations.DisableAndPreset := by
  refine fun s h => ⟨fun n val => ?_, fun sel hs => ⟨maintenance_declined h ?_, maintenance_declined h ?_,
    fun val => maintenance_declined h ?_, maintenance_declined h ?_⟩⟩
  · have hn : finOf 64 (BitVec.ofNat 8 n.val).toNat = some n := finOf_ofNat n (by decide)
    refine ⟨fun hb => maintenance_declined h ?_, fun hb hi => maintenance_answered h ?_,
      fun hb hi => maintenance_answered h ?_, fun hi => maintenance_declined h ?_, fun hi => maintenance_answered h ?_⟩
    · rw [disableElementEffect, hn, orBadArg_some, if_pos hb]
    · rw [disableElementEffect, hn, orBadArg_some, if_neg (by simp [hb]), inUse_eq_false_iff.mpr hi]
      rfl
    · rw [disableElementEffect, hn, orBadArg_some, if_neg (by simp [hb]), inUse_iff.mpr hi, if_neg (by simp),
        restateElement_eq_restated, restated_of_not_worn (by simp), answered]
    · rw [presetWearEffect, hn, orBadArg_some, if_pos (inUse_iff.mpr hi)]
    · rw [presetWearEffect, hn, orBadArg_some, if_neg (by simp [inUse_iff, hi])]
      rfl
  all_goals
    simp only [enableElementEffect, disableElementEffect, presetWearEffect, acceptElementEffect, finOf_none hs,
      orBadArg_none']

/-! ## Renewal and inspection -/

section
variable {s : State} {t : Ticket} {e : Fin 64} {sel : Byte}

theorem item?_none (h : ∀ i ∈ t.items, i.element ≠ e) : t.item? e = none := by
  simpa [Ticket.item?] using h

/-- A zone has a guard while a GATE line has its setting (R15). -/
theorem hasGuard_iff (s : State) (z : Fin 8) :
    s.hasGuard z = true ↔ ∃ k, (s.lines.get k).function = .gate ∧ (s.lines.get k).zone = z := by
  simp [State.hasGuard, Table.any_iff]

/-- The checks of R123 for an element that exists and a ticket that no number names. -/
theorem checkedItem_no_ticket {r : State} {f : Fin 64 → Ticket → Taken} (ht : r.ticket? sel.toNat = none) :
    checkedItem sel (BitVec.ofNat 32 e.val) r f = declined r .noTicket := by
  rw [checkedItem, finOf_ofNat e (by decide), orBadArg_some, withTicket_none ht]

/-- The checks of R123 for an element that exists and a ticket in the table. -/
theorem checkedItem_eq {r : State} {f : Fin 64 → Ticket → Taken} (ht : r.ticket? sel.toNat = some t) :
    checkedItem sel (BitVec.ofNat 32 e.val) r f = if t.state ≠ .working then declined r .notWorking
      else (t.item? e).elim (declined r .notItem) fun i =>
        if i.outcome ≠ .pending then declined r .already
        else if r.hasGuard t.zone && !t.accessSeen then declined r .noAccess
        else f e t := by
  rw [checkedItem, finOf_ofNat e (by decide), orBadArg_some, withTicket_some ht]
  cases t.item? e <;> rfl

/-- The checks of R123 passed. -/
theorem checkedItem_passes {r : State} {i : Item} {f : Fin 64 → Ticket → Taken} (ht : r.ticket? sel.toNat = some t)
    (hw : t.state = .working) (hi : t.item? e = some i) (hp : i.outcome = .pending)
    (hg : r.hasGuard t.zone = false ∨ t.accessSeen = true) :
    checkedItem sel (BitVec.ofNat 32 e.val) r f = f e t := by
  have hguard : (r.hasGuard t.zone && !t.accessSeen) = false := by rcases hg with hg | hg <;> simp [hg]
  rw [checkedItem_eq ht, if_neg (not_not_intro hw), hi]
  simp [hp, hguard]

theorem restated_tickets (s : State) (n : Fin 64) (e : Element) : (s.restated n e).tickets = s.tickets := by
  unfold State.restated
  split <;> rfl

theorem restated_history (s : State) (n : Fin 64) (e : Element) : (s.restated n e).history = s.history := by
  unfold State.restated
  split <;> rfl

/-- A RENEW that passes its checks, said whole (R124). -/
theorem renewItem_eq (s : State) (e : Fin 64) {t : Ticket} {k : Nat} (hk : t.number = k) : s.renewItem e t =
    { (s.logged e k .renewed (s.elements.get e).wear (min 65535 ((s.elements.get e).renewCount + 1))).restated e
        ((s.elements.get e).renewed e) with
      tickets := { s.tickets with
        table := s.tickets.table.map fun u => if u.number = k then u.resolved e .renewed else u }
      history := { s.history with markers := { s.history.markers with service := true } } } := by
  rw [State.renewItem, appendLog_eq_logged, restateElement_eq_restated, hk, State.mapTicket, restated_tickets,
    restated_history]
  rfl

theorem inspectItem_eq (s : State) (e : Fin 64) {t : Ticket} {k : Nat} (hk : t.number = k) : s.inspectItem e t =
    { s.logged e k .inspected (s.elements.get e).wear (s.elements.get e).renewCount with
      tickets := { s.tickets with
        table := s.tickets.table.map fun u => if u.number = k then u.resolved e .inspected else u } } := by
  rw [State.inspectItem, appendLog_eq_logged, hk]
  rfl

end

/-- Settles O37: the checks in their order, and what either command leaves. -/
theorem renewAndInspect : Obligations.RenewAndInspect := by
  refine ⟨fun sel s h => ?_, fun sel e s h t ht hw i hi hp hg => ?_⟩
  · have hboth {val : Word} {x : Result} (hx : ∀ f, checkedItem sel val (s.received .m) f =
      declined (s.received .m) x) :
        exec (.renew .m sel val) s = .next ((s.received .m).answering .m 0x33 x 0) ∧
          exec (.inspect .m sel val) s = .next ((s.received .m).answering .m 0x34 x 0) :=
      ⟨maintenance_declined h (hx _), maintenance_declined h (hx _)⟩
    refine ⟨fun val hv => hboth fun f => ?_, fun e => ⟨fun ht => hboth fun f => ?_,
        fun t ht => ⟨fun hw => hboth fun f => ?_,
      fun hw hi => hboth fun f => ?_, fun hw i hi => ⟨fun hp => hboth fun f => ?_, fun hp hg ha => hboth fun f => ?_⟩⟩⟩⟩
    · rw [checkedItem, finOf_none hv, orBadArg_none']
    · exact checkedItem_no_ticket ht
    · rw [checkedItem_eq ht, if_pos hw]
    · rw [checkedItem_eq ht, if_neg (not_not_intro hw), item?_none hi, Option.elim_none]
    · have hi' : t.item? e = some i := hi
      rw [checkedItem_eq ht, if_neg (not_not_intro hw), hi']
      exact if_pos hp
    · have hi' : t.item? e = some i := hi
      rw [checkedItem_eq ht, if_neg (not_not_intro hw), hi']
      simp [hp, (hasGuard_iff _ _).mpr hg, ha]
  · have hnumber := (mem_of_ticket? ht).2
    have hguard : (s.received .m).hasGuard t.zone = false ∨ t.accessSeen = true := by
      refine hg.imp_left fun hg => Bool.eq_false_iff.mpr fun hhas => ?_
      obtain ⟨k, hf, hz⟩ := (hasGuard_iff _ _).mp hhas
      exact hg k hf hz
    refine ⟨maintenance_answered h ?_, maintenance_answered h ?_⟩
    · rw [renewEffect, checkedItem_passes ht hw hi hp hguard, renewItem_eq _ _ hnumber]
      rfl
    · rw [inspectEffect, checkedItem_passes ht hw hi hp hguard, inspectItem_eq _ _ hnumber]
      rfl

end Sys2Proof.Machine

/-! PROOF. The Signal Line Unit: READ-LINES (R7), SET-LINE and SET-LINE-LEVEL (R3, R6, R10, R13, R15, R16), a level
accepted by the filter (R1, R9, R14), the contact scan (R10, R11) and the blink clock (R18). -/

namespace Sys2Proof.Machine

/-! ## The levels read -/

/-- A word summed up from its bits has them. -/
theorem bits_foldl {n : Nat} (f : Fin n → Bool) :
    let d := (List.finRange n).foldl (fun w i => w + 2 ^ i.val * flagCode (f i)) 0
    d < 2 ^ n ∧ ∀ i : Fin n, d.testBit i.val = f i := by
  induction n with
  | zero => exact ⟨Nat.zero_lt_one, fun i => i.elim0⟩
  | succ n ih =>
    obtain ⟨hlt, hbits⟩ := ih fun i => f i.castSucc
    intro d
    have hd : d = (List.finRange n).foldl (fun w i => w + 2 ^ i.val * flagCode (f i.castSucc)) 0 +
        2 ^ n * flagCode (f (Fin.last n)) := by
      simp [d, List.finRange_succ_last, List.foldl_append, List.foldl_map]
    generalize (List.finRange n).foldl (fun w i => w + 2 ^ i.val * flagCode (f i.castSucc)) 0 = low at hd hlt hbits
    rw [hd]
    cases hlast : f (Fin.last n) with
    | false =>
      simp only [flagCode, Bool.false_eq_true, if_false, Nat.mul_zero, Nat.add_zero]
      refine ⟨hlt.trans (Nat.pow_lt_pow_right (by decide) n.lt_succ_self), fun i => ?_⟩
      induction i using Fin.lastCases with
      | last => rw [hlast]; exact Nat.testBit_lt_two_pow hlt
      | cast i => exact hbits i
    | true =>
      simp only [flagCode, if_true, Nat.mul_one]
      rw [Nat.add_comm low]
      refine ⟨by rw [Nat.pow_succ]; omega, fun i => ?_⟩
      induction i using Fin.lastCases with
      | last =>
        rw [hlast, Fin.val_last, Nat.testBit_two_pow_add_eq, Nat.testBit_lt_two_pow hlt]
        rfl
      | cast i =>
        rw [Fin.val_castSucc, Nat.testBit_two_pow_add_gt i.isLt]
        exact hbits i

section
variable {s : State} {i : Fin 24}

theorem isContact_iff {l : Line} : l.isContact = true ↔ l.function = .tach ∧ l.sensing = .contact := by
  simp [Line.isContact]

/-- The level that READ-LINES returns for a CONTACT TACH line (R7). -/
theorem lineLevel_contact (h : (s.lines.get i).isContact = true) :
    s.lineLevel i = (s.lines.get i).sample.getD (s.pins.input.getLsbD i.val) := by
  unfold State.lineLevel
  rw [h]
  cases (s.lines.get i).sample <;> rfl

/-- The level that READ-LINES returns for any other line (R7). -/
theorem lineLevel_pin (h : (s.lines.get i).isContact = false) :
    s.lineLevel i = (s.pinDrive i).getD (s.pins.input.getLsbD i.val) := by
  unfold State.lineLevel
  rw [h]
  cases s.pinDrive i <;> rfl

end

/-- Settles O39: the word has the bit of each line, and that bit is the level of R7. -/
theorem readLinesLevels : Obligations.ReadLinesLevels := by
  intro p levels s h r t
  obtain ⟨hlt, hbits⟩ := bits_foldl t.lineLevel
  refine ⟨_, hlt, any_answered h rfl, fun i => ?_⟩
  rw [hbits i]
  have hdrive : t.pinDrive i = r.pinDrive i := rfl
  refine ⟨fun b hc hs => ?_, fun hc hs => ?_, fun b hc hd => ?_, fun hc hd => ?_⟩
  · have hs' : (t.lines.get i).sample = some b := hs
    rw [lineLevel_contact (s := t) (isContact_iff.mpr hc), hs']
    rfl
  · have hs' : (t.lines.get i).sample = none := hs
    rw [lineLevel_contact (s := t) (isContact_iff.mpr hc), hs']
    rfl
  · rw [lineLevel_pin (s := t) (Bool.eq_false_iff.mpr (mt isContact_iff.mp hc)), hdrive, hd]
    rfl
  · rw [lineLevel_pin (s := t) (Bool.eq_false_iff.mpr (mt isContact_iff.mp hc)), hdrive, hd]
    rfl

/-! ## SET-LINE -/

theorem flagOf_field : ∀ x ∈ [(0, false), (1, true)], flagOf (BitVec.ofNat 24 x.1).toNat = some x.2 := by decide

theorem directionOf_field : ∀ x ∈ [(0, false), (1, true)],
    directionOf (BitVec.ofNat 24 x.1).toNat = some (if x.2 then .output else .input) := by decide

theorem ownerSideOf_field : ∀ x ∈ [(0, false), (1, true)],
    ownerSideOf (BitVec.ofNat 24 x.1).toNat = some (if x.2 then .b else .a) := by decide

theorem functionOf_field : ∀ x ∈ [(0, LineFunction.plain), (1, .tach), (2, .gate), (3, .hold), (4, .lamp)],
    functionOf (BitVec.ofNat 24 x.1).toNat = some x.2 := by decide

theorem sensingOf_field : ∀ x ∈ [(0, Sensing.driven), (1, .contact)],
    sensingOf (BitVec.ofNat 24 x.1).toNat = some x.2 := by decide

theorem flagOf_value : ∀ x ∈ [(0, false), (1, true)], flagOf (BitVec.ofNat 32 x.1).toNat = some x.2 := by decide

section
variable {s : State} {i : Fin 24} {effect : State → Taken}

theorem setLineWith_some {α : Type} {value : Option α} {v : α} (i : Fin 24) (hv : value = some v) (f : α → Line → Line)
    (r : State) : setLineWith (BitVec.ofNat 8 i.val) value f r =
        answered (r.writeLineGate i (f v (r.lines.get i))) 0 := by
  rw [setLineWith, finOf_ofNat i (by decide), orBadArg_some, hv, orBadArg_some]

/-- A field whose write leaves what a line is active by (R15): the one field is stored. -/
theorem setLineWith_stored {α : Type} {value : Option α} {v : α} {f : α → Line → Line} (h : s.Taking .m)
    (hv : value = some v)
    (ha : (f v ((s.received .m).lines.get i)).activeZone = ((s.received .m).lines.get i).activeZone) :
    (.next (s.frameCommand .m 0x11 (setLineWith (BitVec.ofNat 8 i.val) value f)) : Host.Outcome State Fault Refusal) =
      .next (((s.received .m).lineWritten i (f v ((s.received .m).lines.get i))).answering .m 0x11 .done 0) := by
  refine maintenance_answered h ?_
  rw [setLineWith_some i hv, writeLineGate_quiet fun z hz => ha ▸ hz, answered]

end

/-- Settles O40: each field by its operand. -/
theorem lineSettingStored : Obligations.LineSettingStored := by
  refine fun i s h v b hb => ⟨setLineWith_stored h (directionOf_field _ hb) rfl,
      setLineWith_stored h (flagOf_field _ hb) rfl,
    setLineWith_stored h (flagOf_field _ hb) rfl, setLineWith_stored h (flagOf_field _ hb) rfl,
    setLineWith_stored h (flagOf_field _ hb) rfl, setLineWith_stored h (ownerSideOf_field _ hb) rfl,
    maintenance_answered h ?_⟩
  rw [setLineLevelEffect, finOf_ofNat i (by decide), orBadArg_some, flagOf_value _ hb, orBadArg_some,
    writeLine_eq_lineWritten, answered]

/-- A line record written by what it makes active (R15, R16). -/
theorem setLineWith_rows {α : Type} {value : Option α} {v : α} {f : α → Line → Line} {s : State} {i : Fin 24}
    {l' : Line}
    (h : s.Taking .m) (hv : value = some v) (hl : f v ((s.received .m).lines.get i) = l') :
    let r : State := s.received .m
    let active (k : Line) (z : Fin 8) : Prop := k.function = .gate ∧ k.filtered = some k.polarity ∧ k.zone = z
    let w : State := r.lineWritten i l'
    let out : Host.Outcome State Fault Refusal :=
      .next (s.frameCommand .m 0x11 (setLineWith (BitVec.ofNat 8 i.val) value f))
    ((∀ z, active l' z → active (r.lines.get i) z) → out = .next (w.answering .m 0x11 .done 0)) ∧
    (∀ z, active l' z → ¬active (r.lines.get i) z →
      ((r.tickets.holds.get z).state ≠ .held → out = .next ((w.noticed 0x0400).answering .m 0x11 .done 0)) ∧
      ((r.tickets.holds.get z).state = .held → out = .next ({ w with tickets := { w.tickets with
        table := w.tickets.table.map fun t : Ticket =>
          if t.zone = z ∧ t.state = TicketState.working then { t with accessSeen := true } else t } }.answering .m
            0x11 .done 0))) := by
  have heffect := setLineWith_some i hv f (s.received .m)
  rw [hl] at heffect
  refine ⟨fun hq => maintenance_answered h ?_, fun z hz hn => ⟨fun hf => maintenance_answered h ?_,
    fun hf => maintenance_answered h ?_⟩⟩
  · rw [heffect, writeLineGate_quiet fun z hz => activeZone_eq_some.mpr (hq z (activeZone_eq_some.mp hz)), answered]
  all_goals rw [heffect, writeLineGate_opens (activeZone_eq_some.mpr hz) (mt activeZone_eq_some.mp hn)]
  · rw [gateOpened_open (s := (s.received .m).lineWritten i l') hf]
    rfl
  · rw [gateOpened_held (s := (s.received .m).lineWritten i l') hf, State.mapZoneTickets]
    simp only [ite_and]
    rfl

/-- Settles O41: each field by its operand, and the record that a write of it leaves. -/
theorem lineRoleWritten : Obligations.LineRoleWritten :=
  fun _ _ h => ⟨fun _ _ hf => setLineWith_rows h (functionOf_field _ hf) rfl,
    fun _ _ hm => setLineWith_rows h (sensingOf_field _ hm) rfl,
    fun _ _ hb => setLineWith_rows h (flagOf_field _ hb) rfl,
    fun z => setLineWith_rows h (finOf_ofNat z (by decide)) rfl⟩

/-! ## A level accepted -/

section
variable {s : State} {i : Fin 24} {before : Option Bool} {level : Bool}

theorem levelFilterAccept_same (h : (s.lines.get i).filtered = some level) :
    exec (.levelFilterAccept i level) s = .next s := if_pos (.inr h)

theorem levelFilterAccept_other (hr : s.ctl.op ≠ .retained) (h : (s.lines.get i).filtered ≠ some level) :
    exec (.levelFilterAccept i level) s =
      .next ((s.acceptLevel i level).takeLevel i (s.lines.get i).filtered level) :=
  if_neg (not_or_intro hr h)

/-- A level on a DRIVEN TACH line that is an edge to its active level, not the first level established (R9). -/
structure Line.Pulses (l : Line) (before : Option Bool) (level : Bool) : Prop where
  tach : l.function = .tach
  driven : l.sensing = .driven
  established : before.isSome = true
  active : level = l.polarity

/-- An edge to its active level on a DRIVEN TACH line (R9, R14). -/
theorem takeLevel_edge (h : (s.lines.get i).Pulses before level) :
    s.takeLevel i before level = if (s.lines.get i).wake then (s.countPulse i).awake else s.countPulse i := by
  obtain ⟨hf, hs, hb, hl⟩ := h
  rw [← wakeIfParked_eq_awake]
  simp [State.takeLevel, hf, hs, hb, hl]

/-- Any other level on a line that is no GATE line (R9). -/
theorem takeLevel_none (hg : (s.lines.get i).function ≠ .gate) (h : ¬(s.lines.get i).Pulses before level) :
    s.takeLevel i before level = s := by
  unfold State.takeLevel
  dsimp only
  split
  · rename_i hf hs
    exact if_neg fun ⟨hb, hl⟩ => h ⟨hf, hs, hb, hl⟩
  · rename_i hf
    exact absurd hf hg
  all_goals rfl

/-- A level on a GATE line (R14 to R16). -/
theorem takeLevel_gate (hf : (s.lines.get i).function = .gate) : s.takeLevel i before level =
    let u : State := if level = (s.lines.get i).polarity then s.gateOpened (s.lines.get i).zone else s
    if (s.lines.get i).wake = true ∧ before ≠ none then u.awake else u := by
  simp only [← wakeIfParked_eq_awake]
  simp [State.takeLevel, hf, Option.isSome_iff_ne_none]

theorem acceptLevel_get (s : State) (i : Fin 24) (level : Bool) :
    (s.acceptLevel i level).lines.get i = { s.lines.get i with filtered := some level } := by simp

/-- A level accepted, and a count with it, said whole (R1, R8). -/
def State.accepted (s : State) (i : Fin 24) (level : Bool) (count : Nat) : State := { s with
  lines := s.lines.set i { s.lines.get i with
    filtered := some level
    count := count }
  pins := { s.pins with input := withPin s.pins.input i level } }

theorem acceptLevel_countPulse (h : (s.lines.get i).count < 65535) :
    (s.acceptLevel i level).countPulse i = s.accepted i level ((s.lines.get i).count + 1) := by
  rw [countPulse_counted (by rw [acceptLevel_get]; exact h), State.acceptLevel_lines, Table.modify_modify]
  rfl

theorem edge_iff {b p : Bool} {o : Option Bool} (h : o ≠ some b) : o = some (!b) ∧ b = p ↔ o.isSome = true ∧ b = p := by
  cases o with
  | none => simp
  | some x => cases x <;> cases b <;> simp_all

end

/-- Settles O51: the levels that count no pulse, the pulse counted, and the pulse lost. -/
theorem tachEdgeCounts : Obligations.TachEdgeCounts := by
  intro i level s hr
  have hedge (h : (s.lines.get i).filtered = some !level) : (s.lines.get i).filtered ≠ some level := by
    rw [h]
    cases level <;> simp
  have htaken (hd : (s.lines.get i).function = .tach ∧ (s.lines.get i).sensing = .driven)
      (he : (s.lines.get i).filtered = some (!level) ∧ level = (s.lines.get i).polarity) :
      exec (.levelFilterAccept i level) s = .next (if (s.lines.get i).wake then
        ((s.acceptLevel i level).countPulse i).awake else (s.acceptLevel i level).countPulse i) := by
    have hget := acceptLevel_get s i level
    have hpulses : ((s.acceptLevel i level).lines.get i).Pulses (s.lines.get i).filtered level := by
      rw [hget]
      exact ⟨hd.1, hd.2, by rw [he.1]; rfl, he.2⟩
    rw [levelFilterAccept_other hr (hedge he.1), takeLevel_edge hpulses, hget]
  refine ⟨levelFilterAccept_same, fun hf hn hg => ?_, fun hd he hc => ?_, fun hd he hc => ?_⟩
  · have hget := acceptLevel_get s i level
    rw [levelFilterAccept_other hr hf, takeLevel_none (by rw [hget]; exact hg)]
    · rfl
    · rw [hget]
      exact fun ⟨hf', hs, hb, hl⟩ => hn ⟨⟨hf', hs⟩, (edge_iff hf).mpr ⟨hb, hl⟩⟩
  · rw [htaken hd he, acceptLevel_countPulse hc]
    rfl
  · rw [htaken hd he, countPulse_lost (by rw [acceptLevel_get]; exact Nat.le_of_eq hc.symm)]
    rfl

/-- Settles O52: a gate that closes, one that opens in a zone not HELD, and one that opens in a HELD zone. -/
theorem gateOpens : Obligations.GateOpens := by
  intro i level s hr l pin accepted woken hg hf
  have hget := acceptLevel_get s i level
  have hexec : exec (.levelFilterAccept i level) s = .next (woken
      (if level = l.polarity then accepted.gateOpened l.zone else accepted)) := by
    rw [levelFilterAccept_other hr hf, takeLevel_gate (by rw [hget]; exact hg), hget]
    rfl
  refine ⟨fun hp => ?_, fun hp hh => ?_, fun hp hh => ?_⟩
  · rw [hexec, if_neg hp]
  · rw [hexec, if_pos hp, gateOpened_open (s := accepted) hh]
    rfl
  · rw [hexec, if_pos hp, gateOpened_held (s := accepted) hh, State.mapZoneTickets]
    simp only [ite_and]
    rfl

/-! ## The contact scan -/

section
variable {s : State} {levels : Pins}

/-- A scan keeps what a line takes part in scans by. -/
theorem afterScan_wakes (l : Line) (op : OpState) (b : Bool) :
    ((l.afterScan op b).isContact && (l.afterScan op b).wake) = (l.isContact && l.wake) := by
  unfold Line.afterScan
  split <;> rfl

/-- The device after a scan, before a pulse wakes it (R10, R11). -/
def State.scannedOnce (s : State) (levels : Pins) : State := { s with
  lines := s.lines.mapIdx fun i l => l.afterScan s.ctl.op (levels.getLsbD i.val)
  scan := { s.scan with
    contacts := levels
    timer := s.scanTimerPeriod }
  notices := if s.scanAny levels (fun l => l.count = Config.countTop) then
    { s.notices with m := { s.notices.m with events := s.notices.m.events ||| 0x0200 } } else s.notices }

/-- A scan leaves the lines that the park period is kept for (R11). -/
theorem scanTimerPeriod_scanned (s : State) (levels : Pins) : State.scanTimerPeriod { s with
    lines := s.lines.mapIdx fun i l => l.afterScan s.ctl.op (levels.getLsbD i.val)
    scan.contacts := levels } = s.scanTimerPeriod := by
  have hany : ((s.lines.mapIdx fun i l => l.afterScan s.ctl.op (levels.getLsbD i.val)).any fun l =>
      l.isContact && l.wake) = s.lines.any fun l => l.isContact && l.wake := by
    rw [Bool.eq_iff_iff, Table.any_iff, Table.any_iff]
    simp only [Table.get_mapIdx, afterScan_wakes]
  unfold State.scanTimerPeriod
  cases hop : s.ctl.op with
  | parked =>
    rw [hop] at hany
    simp only [hany]
  | _ => rfl

theorem scanContacts_eq (h : s.scan.timer ≠ none) : s.scanContacts levels =
    if s.scanAny levels (fun _ => true) then (s.scannedOnce levels).awake else s.scannedOnce levels := by
  unfold State.scanContacts
  cases ht : s.scan.timer with
  | none => exact absurd ht h
  | some k =>
    simp only [wakeIfParked_eq_awake, State.restartScan, scanTimerPeriod_scanned]
    unfold State.scannedOnce
    split <;> split <;> rfl

theorem scanContacts_stopped (h : s.scan.timer = none) : s.scanContacts levels = s := by
  unfold State.scanContacts
  rw [h]

/-- The period of the state in force, spelled (R11). -/
theorem scanTimerPeriod_parked (h : s.ctl.op = .parked) : s.scanTimerPeriod =
    if (List.finRange 24).any fun i => (s.lines.get i).scanned .parked then
      some (2 * Config.scanTable.getD s.scan.parkIndex 0) else none := by
  have hany : (s.lines.any fun l => l.isContact && l.wake) =
      (List.finRange 24).any fun i => (s.lines.get i).scanned .parked := by
    rw [Bool.eq_iff_iff, Table.any_iff, List.any_eq_true]
    simp [Line.scanned]
  simp only [State.scanTimerPeriod, h, hany, scanPeriod]

end

theorem contact_scan_rows (levels : Pins) (s : State) :
    let scanned (l : Line) : Bool := l.scanned s.ctl.op
    let pulse (i : Fin 24) : Bool := scanned (s.lines.get i) &&
      (s.lines.get i).sample = some (!(s.lines.get i).polarity) && levels.getLsbD i.val = (s.lines.get i).polarity
    let t : State := { s with
      lines := s.lines.mapIdx fun i l =>
        if scanned l then { l with
          sample := some (levels.getLsbD i.val)
          count := if pulse i then min 65535 (l.count + 1) else l.count }
        else l
      scan := { s.scan with
        contacts := levels
        timer := s.scanTimerPeriod }
      notices :=
        if (List.finRange 24).any fun i => pulse i && (s.lines.get i).count = 65535 then
          { s.notices with m := { s.notices.m with events := s.notices.m.events ||| 0x0200 } }
        else s.notices }
    s.scan.timer ≠ none →
      exec (.contactScan levels) s = .next (if (List.finRange 24).any pulse then t.awake else t) := by
  intro scanned pulse t ht
  have hlines : (s.lines.mapIdx fun i l => l.afterScan s.ctl.op (levels.getLsbD i.val)) = t.lines := by
    refine Table.ext_get fun i => ?_
    simp only [t, Table.get_mapIdx]
    rfl
  have hstate : s.scannedOnce levels = t := by
    rw [State.scannedOnce, hlines]
    rfl
  have hpulse : s.scanAny levels (fun _ => true) = (List.finRange 24).any pulse := by
    simp only [State.scanAny, Bool.and_true]
    rfl
  have hexec : exec (.contactScan levels) s = .next (s.scanContacts levels) := rfl
  rw [hexec, scanContacts_eq ht, hpulse, hstate]

theorem blinkHalfCycle_rows (s : State) :
    (s.running = true → s.blink < 500 → exec .blinkHalfCycle s = .next { s with blink := 500 }) ∧
    (s.running = true → 500 ≤ s.blink → exec .blinkHalfCycle s = .next { s with blink := 0 }) ∧
    (s.ctl.op = .parked → exec .blinkHalfCycle s = .next s) := by
  have hexec : exec .blinkHalfCycle s = .next s.blinkHalf := rfl
  rw [hexec, State.blinkHalf]
  refine ⟨fun hr hb => ?_, fun hr hb => ?_, fun hp => ?_⟩
  · rw [if_pos hr, if_pos hb]
  · rw [if_pos hr, if_neg (Nat.not_lt.mpr hb)]
  · rw [if_neg]
    simp [State.running, hp]

/-- Settles O53: the scan table, the scan by its timer, and the half-cycle. -/
theorem scanAndBlink : Obligations.ScanAndBlink := by
  refine ⟨rfl, fun levels s => ⟨fun ht => congrArg Host.Outcome.next (scanContacts_stopped ht), fun ht => ?_⟩,
    blinkHalfCycle_rows⟩
  have hrows := contact_scan_rows levels s ht
  cases hop : s.ctl.op with
  | parked =>
    rw [scanTimerPeriod_parked hop, hop] at hrows
    exact hrows
  | _ =>
    simp only [State.scanTimerPeriod, hop] at hrows
    exact hrows

end Sys2Proof.Machine

/-! PROOF. The reads: line and element records and the table items (R4, R60, R182 to R184), the plan, the zones and the
tickets (R100, R102, R127, R185), and the fields of both rings with the cursors they move (R35, R139, R187). -/

namespace Sys2Proof.Machine

/-! ## Fields by their number -/

section
variable {s : State} {p : Port}

/-- A number listed with the value of a field. -/
theorem field_of_listed {w : Nat} {g : Nat → Option Nat} {l : List (Nat × Nat)}
    (h : l.Forall fun q => g (BitVec.ofNat w q.1).toNat = some q.2) {n d : Nat} (hn : (n, d) ∈ l) :
    g (BitVec.ofNat w n).toNat = some d := List.forall_iff_forall_mem.mp h _ hn

theorem orBadArg_then {α β : Type} {a : Option α} {b : α → Option β} {f : α → β → Taken}
    (h : a = none ∨ ∀ x, b x = none) : (orBadArg s a fun x => orBadArg s (b x) (f x)) = declined s .badArg := by
  cases a with
  | none => rfl
  | some x =>
    rw [orBadArg_some, (h.resolve_left (Option.some_ne_none x)) x]
    rfl

theorem lineField_none (l : Line) : ∀ {n : Nat}, 11 < n → l.field n = none
  | _ + 12, _ => rfl

theorem elementField_none (e : Element) : ∀ {n : Nat}, 21 < n → e.field n = none
  | _ + 22, _ => rfl

theorem tableItem_none (s : State) (idx : Nat) : ∀ {item : Nat}, 20 < item → s.tableItem item idx = none
  | _ + 21, _ => rfl

theorem indexedItem_ofNat {α : Type} (t : Table α 8) (i : Fin 8) (f : α → Nat) :
    indexedItem t (BitVec.ofNat 8 i.val).toNat f = some (f (t.get i)) := by
  rw [indexedItem, finOf_ofNat i (by decide), Option.map_some]

theorem indexedItem_none {α : Type} (t : Table α 8) {idx : Nat} (f : α → Nat) (h : 7 < idx) :
    indexedItem t idx f = none := by
  rw [indexedItem, finOf_none h, Option.map_none]

/-- An indexed item's index out of range (R182). -/
theorem tableItem_index_none (s : State) {item idx : Nat} (hlo : 6 ≤ item) (hhi : item ≤ 13) (h : 7 < idx) :
    s.tableItem item idx = none := by
  interval_cases item <;> simp only [State.tableItem, indexedItem_none _ _ h]

theorem readLineSettingEffect_some {i : Fin 24} {val : Word} {d : Nat} (r : State)
    (hd : (r.lines.get i).field val.toNat = some d) :
    readLineSettingEffect (BitVec.ofNat 8 i.val) val r = answered r d := by
  rw [readLineSettingEffect, finOf_ofNat i (by decide), orBadArg_some, hd, orBadArg_some]

theorem readElementEffect_some {e : Fin 64} {val : Word} {d : Nat} (r : State)
    (hd : (r.elements.get e).field val.toNat = some d) :
    readElementEffect (BitVec.ofNat 8 e.val) val r = answered r d := by
  rw [readElementEffect, finOf_ofNat e (by decide), orBadArg_some, hd, orBadArg_some]

theorem readTableEffect_some {item idx : Byte} {d : Nat} (r : State)
    (hd : r.tableItem item.toNat idx.toNat = some d) : readTableEffect item idx r = answered r d := by
  rw [readTableEffect, hd, orBadArg_some]

/-- The sampled level by function and sensing (R2). -/
theorem sampledLevel_rows (l : Line) : (l.function = .tach → l.sensing = .driven → l.sampledLevel = l.filtered) ∧
    (l.function = .tach → l.sensing = .contact → l.sampledLevel = l.sample) ∧
    (l.function = .gate → l.sampledLevel = l.filtered) ∧
    (l.function = .plain ∨ l.function = .hold ∨ l.function = .lamp → l.sampledLevel = none) := by
  refine ⟨fun hf hs => ?_, fun hf hs => ?_, fun hf => ?_, fun hf => ?_⟩
  · simp [Line.sampledLevel, hf, hs]
  · simp [Line.sampledLevel, hf, hs]
  · simp [Line.sampledLevel, hf]
  · rcases hf with hf | hf | hf <;> simp [Line.sampledLevel, hf]

end

/-- Settles O42: each field and item by its number, and none beyond the last. -/
theorem recordAndTableReads : Obligations.RecordAndTableReads := by
  refine ⟨sampledLevel_rows, fun _ _ => code_of_listed (by decide), fun _ _ => code_of_listed (by decide),
    fun _ _ => code_of_listed (by decide), fun _ _ => code_of_listed (by decide),
    fun _ _ => code_of_listed (by decide), fun _ _ => code_of_listed (by decide),
    fun _ _ => code_of_listed (by decide),
    fun p s h => ⟨fun i n d hn => any_answered h (readLineSettingEffect_some _ (field_of_listed ?_ hn)),
      fun e n d hn => any_answered h (readElementEffect_some _ (field_of_listed ?_ hn)),
      fun sel val hr => any_declined h (orBadArg_then ?_), fun sel val hr => any_declined h (orBadArg_then ?_)⟩,
    fun p s h => ⟨fun idx n d hn => any_answered h (readTableEffect_some _
        (field_of_listed (g := fun n => (s.received p).tableItem n idx.toNat) ?_ hn)),
      fun i n d hn => any_answered h (readTableEffect_some _
        (field_of_listed (g := fun n => (s.received p).tableItem n (BitVec.ofNat 8 i.val).toNat) ?_ hn)),
      fun item idx hr => any_declined h ?_⟩⟩
  · refine ⟨rfl, rfl, rfl, rfl, rfl, rfl, rfl, rfl, rfl, rfl, ?_, rfl⟩
    change some (sampledCode ((s.received p).lines.get i).sampledLevel) = _
    cases ((s.received p).lines.get i).sampledLevel <;> rfl
  · have href : referenceCode ((s.received p).elements.get e).reference =
        ((s.received p).elements.get e).reference.getD 255 := by
      cases ((s.received p).elements.get e).reference <;> rfl
    exact ⟨rfl, rfl, rfl, rfl, congrArg some href, rfl, rfl, rfl, rfl, rfl, rfl, rfl, rfl, rfl, rfl, rfl, rfl, rfl, rfl,
      rfl, rfl, rfl⟩
  · exact hr.imp finOf_none fun hv i => lineField_none _ hv
  · exact hr.imp finOf_none fun hv i => elementField_none _ hv
  · exact ⟨rfl, rfl, rfl, rfl, rfl, rfl, rfl, rfl, rfl, rfl, rfl, rfl, rfl⟩
  · have hzone (f : ZoneBook → Nat) := indexedItem_ofNat (s.received p).book.zones i f
    exact ⟨hzone fun b => b.owner.code, hzone fun b => b.fallback, hzone fun b => b.holdTime,
      hzone fun b => b.reportA.data, hzone fun b => b.reportB.data, indexedItem_ofNat _ i id,
      indexedItem_ofNat _ i Band.bound, indexedItem_ofNat _ i Band.factor⟩
  · have hnone : (s.received p).tableItem item.toNat idx.toNat = none :=
      hr.elim (tableItem_none _ _) fun ⟨hlo, hhi, hi⟩ => tableItem_index_none _ hlo hhi hi
    rw [readTableEffect, hnone, orBadArg_none']

/-! ## The plan and the zones -/

section
variable {s : State} {p : Port}

theorem toNat_byte {k : Nat} (h : k < 2 ^ 8) : (BitVec.ofNat 8 k).toNat = k :=
  BitVec.toNat_ofNat _ _ ▸ Nat.mod_eq_of_lt h

theorem toNat_word {k : Nat} (h : k < 2 ^ 32) : (BitVec.ofNat 32 k).toNat = k :=
  BitVec.toNat_ofNat _ _ ▸ Nat.mod_eq_of_lt h

theorem readPlanEffect_position {k : Nat} (h : k < 64) (r : State) :
    readPlanEffect (BitVec.ofNat 8 k) 0 r = readPlanMember k r := by
  change orBadArg r (within 0 63 (BitVec.ofNat 8 k).toNat) (fun position => readPlanMember position r) = _
  rw [toNat_byte (by omega), within_some (Nat.zero_le _) (by omega), orBadArg_some]

theorem readPlanMember_some {k : Nat} {n : Fin 64} {r : State} (h : r.plan.due[k]? = some n) : readPlanMember k r =
    answered r (n.val + 2 ^ 8 * (r.elements.get n).state.code + 2 ^ 16 * (r.elements.get n).projection) := by
  simp [readPlanMember, h]

theorem readPlanMember_none {k : Nat} {r : State} (h : r.plan.due.length ≤ k) :
    readPlanMember k r = declined r .empty := by
  simp [readPlanMember, List.getElem?_eq_none h]

theorem readPlanEffect_badArg (sel : Byte) {val : Word} (h : 1 < val.toNat) (r : State) :
    readPlanEffect sel val r = declined r .badArg := by
  unfold readPlanEffect
  split
  · rename_i hv
    omega
  · rename_i hv
    omega
  · rfl

theorem plan_rows (h : s.Taking p) :
    let r : State := s.received p
    (∀ k, k < 64 → ∀ n, r.plan.due[k]? = some n →
      exec (.readPlan p (BitVec.ofNat 8 k) 0) s = .next (r.answering p 0x28 .done
        (n.val + 2 ^ 8 * (r.elements.get n).state.code + 2 ^ 16 * (r.elements.get n).projection))) ∧
    (∀ k : Nat, k < 64 → r.plan.due.length ≤ k →
      exec (.readPlan p (BitVec.ofNat 8 k) 0) s = .next (r.answering p 0x28 .empty 0)) ∧
    (∀ sel : Byte, 63 < sel.toNat → exec (.readPlan p sel 0) s = .next (r.answering p 0x28 .badArg 0)) ∧
    (∀ sel : Byte, exec (.readPlan p sel 1) s =
      .next (r.answering p 0x28 .done (r.plan.generation + 2 ^ 16 * r.plan.due.length))) ∧
    (∀ (sel : Byte) (val : Word), 1 < val.toNat →
      exec (.readPlan p sel val) s = .next (r.answering p 0x28 .badArg 0)) := by
  refine ⟨fun k hk n hn => any_answered h ?_, fun k hk hl => any_declined h ?_, fun sel hs => any_declined h ?_,
    fun sel => any_answered h rfl, fun sel val hv => any_declined h (readPlanEffect_badArg sel hv _)⟩
  · rw [readPlanEffect_position hk, readPlanMember_some hn, answered]
  · rw [readPlanEffect_position hk, readPlanMember_none hl]
  · change orBadArg _ (within 0 63 sel.toNat) _ = _
    rw [within_none (.inr hs), orBadArg_none']

/-- READ-ZONE on a zone that exists (R102, R185). -/
theorem readZoneEffect_eq (z : Fin 8) (r : State) :
    let h := r.tickets.holds.get z
    readZoneEffect (BitVec.ofNat 8 z.val) r = answered r
      (r.plan.due.countP (fun n => (r.elements.get n).zone = z) +
        2 ^ 8 * (List.finRange 64).countP (fun n => (r.elements.get n).zone = z ∧ (r.elements.get n).state = .due) +
        2 ^ 16 * (r.book.zones.get z).effectiveClass + 2 ^ 20 * h.state.code + 2 ^ 22 * flagCode h.grantA +
        2 ^ 23 * flagCode h.grantB) := by
  have hdue : r.dueElementsIn z =
      (List.finRange 64).countP fun n => (r.elements.get n).zone = z ∧ (r.elements.get n).state = .due := by
    rw [State.dueElementsIn, Table.count_eq_countP]
    simp only [Bool.decide_and]
  simp only [readZoneEffect, finOf_ofNat z (show 8 ≤ 2 ^ 8 by decide), orBadArg_some, hdue, State.dueMembersIn]

/-! ## The tickets -/

/-- The entry of a sorted list at the count of the smaller ones. -/
theorem getElem?_rank {l : List Nat} (hs : l.Pairwise (· ≤ ·)) (hn : l.Nodup) {n : Nat} (h : n ∈ l) :
    l[l.countP fun k => k < n]? = some n := by
  obtain ⟨l₁, l₂, rfl⟩ := List.append_of_mem h
  obtain ⟨-, hs₂, hcross⟩ := List.pairwise_append.mp hs
  obtain ⟨-, -, hdisjoint⟩ := List.nodup_append.mp hn
  have h₁ : (l₁.countP fun k => k < n) = l₁.length := List.countP_eq_length.mpr fun k hk => by
    have hle := hcross k hk n List.mem_cons_self
    have hne := hdisjoint k hk n List.mem_cons_self
    simpa using Nat.lt_of_le_of_ne hle hne
  have h₂ : ((n :: l₂).countP fun k => k < n) = 0 := List.countP_eq_zero.mpr fun k hk => by
    rcases List.mem_cons.mp hk with rfl | hk
    · simp
    · simpa using (List.pairwise_cons.mp hs₂).1 k hk
  rw [List.countP_append, h₁, h₂, Nat.add_zero, List.getElem?_append_right le_rfl]
  simp

theorem ticketNumbers_rank {r : State} {n : Nat} (hn : (r.tickets.table.map Ticket.number).Nodup)
    (h : n ∈ r.tickets.table.map Ticket.number) :
    r.ticketNumbers[(r.tickets.table.map Ticket.number).countP fun k => k < n]? = some n := by
  have hperm := List.perm_insertionSort (· ≤ ·) (r.tickets.table.map Ticket.number)
  rw [← hperm.countP_eq]
  exact getElem?_rank (List.pairwise_insertionSort _ _) (hperm.nodup_iff.mpr hn) (hperm.mem_iff.mpr h)

theorem readTicketTable_some {k n : Nat} {r : State} (hk : k ≤ 7) (h : r.ticketNumbers[k]? = some n) :
    readTicketTable k r = answered r n := by
  simp [readTicketTable, hk, h]

theorem readTicketTable_none {k : Nat} {r : State} (hk : k ≤ 7) (h : r.ticketNumbers[k]? = none) :
    readTicketTable k r = declined r .empty := by
  simp [readTicketTable, hk, h]

/-- READ-TICKET of the table with a value in 32 bits (R127). -/
theorem readTicketEffect_table {k : Nat} (hk : k < 2 ^ 32) (r : State) :
    readTicketEffect 0 (BitVec.ofNat 32 k) r = readTicketTable k r := by
  rw [readTicketEffect, if_pos rfl, toNat_word hk]

theorem readTicketEffect_part {sel : Byte} {val : Word} (hs : sel ≠ 0) (hv : val.toNat ≤ 7) (r : State) :
    readTicketEffect sel val r = withTicket r sel.toNat fun t => readTicketPart t val.toNat r := by
  rw [readTicketEffect, if_neg hs, within_some (Nat.zero_le _) hv, orBadArg_some]

theorem readTicketPart_item {t : Ticket} {k : Nat} {i : Item} {r : State} (h : t.items[k]? = some i) :
    readTicketPart t (k + 2) r = answered r (i.element.val + 2 ^ 8 * i.outcome.code) := by
  simp [readTicketPart, h]

theorem readTicketPart_no_item {t : Ticket} {k : Nat} {r : State} (h : t.items.length ≤ k) :
    readTicketPart t (k + 2) r = declined r .empty := by
  simp [readTicketPart, List.getElem?_eq_none h]

theorem ticket_table_rows (h : s.Taking p) :
    let r : State := s.received p
    let numbers := r.tickets.table.map Ticket.number
    (∀ n, numbers.Nodup → n ∈ numbers → numbers.countP (fun k => k < n) ≤ 7 →
      exec (.readTicket p 0 (BitVec.ofNat 32 (numbers.countP fun k => k < n))) s =
        .next (r.answering p 0x36 .done n)) ∧
    (∀ k, k ≤ 7 → numbers.length ≤ k →
      exec (.readTicket p 0 (BitVec.ofNat 32 k)) s = .next (r.answering p 0x36 .empty 0)) ∧
    exec (.readTicket p 0 8) s = .next (r.answering p 0x36 .done (numbers.length + 2 ^ 8 * r.tickets.next)) ∧
    (∀ val : Word, 8 < val.toNat → exec (.readTicket p 0 val) s = .next (r.answering p 0x36 .badArg 0)) := by
  intro r numbers
  refine ⟨fun n hn hmem hk => any_answered h ?_, fun k hk hl => any_declined h ?_, any_answered h ?_,
    fun val hv => any_declined h ?_⟩
  · rw [readTicketEffect_table (by omega), readTicketTable_some hk (ticketNumbers_rank hn hmem), answered]
  · have hnone : r.ticketNumbers[k]? = none :=
      List.getElem?_eq_none (by rw [State.ticketNumbers, List.length_insertionSort]; exact hl)
    rw [readTicketEffect_table (by omega), readTicketTable_none hk hnone]
  · have hlen : numbers.length = r.tickets.table.length := List.length_map _
    rw [hlen]
    rfl
  · rw [readTicketEffect, if_pos rfl, readTicketTable, if_neg (by omega), if_neg (by omega)]

theorem ticket_part_rows (h : s.Taking p) {sel : Byte} (hs : sel ≠ 0) :
    let r : State := s.received p
    (∀ val : Word, 7 < val.toNat → exec (.readTicket p sel val) s = .next (r.answering p 0x36 .badArg 0)) ∧
    (∀ val : Word, val.toNat ≤ 7 → r.ticket? sel.toNat = none →
      exec (.readTicket p sel val) s = .next (r.answering p 0x36 .noTicket 0)) ∧
    (∀ t, r.ticket? sel.toNat = some t →
      exec (.readTicket p sel 0) s = .next (r.answering p 0x36 .done (t.zone.val + 2 ^ 8 * t.state.code +
        2 ^ 16 * t.items.length + 2 ^ 24 * flagCode t.everWorked + 2 ^ 25 * flagCode t.accessSeen)) ∧
      (∃ sec, t.timer ≤ 1000 * sec ∧ 1000 * sec < t.timer + 1000 ∧
        exec (.readTicket p sel 1) s = .next (r.answering p 0x36 .done sec)) ∧
      (∀ k, k < 6 → ∀ i, t.items[k]? = some i → exec (.readTicket p sel (BitVec.ofNat 32 (k + 2))) s =
        .next (r.answering p 0x36 .done (i.element.val + 2 ^ 8 * i.outcome.code))) ∧
      (∀ k, k < 6 → t.items.length ≤ k →
        exec (.readTicket p sel (BitVec.ofNat 32 (k + 2))) s = .next (r.answering p 0x36 .empty 0))) := by
  intro r
  have hpart {val : Word} {t : Ticket} (hv : val.toNat ≤ 7) (ht : r.ticket? sel.toNat = some t) :
      readTicketEffect sel val r = readTicketPart t val.toNat r := by
    rw [readTicketEffect_part hs hv, withTicket_some ht]
  refine ⟨fun val hv => any_declined h ?_, fun val hv ht => any_declined h ?_, fun t ht =>
    ⟨any_answered h (hpart (by decide) ht), ⟨secondsUp t.timer, ?_, ?_, any_answered h (hpart (by decide) ht)⟩,
      fun k hk i hi => any_answered h ?_, fun k hk hl => any_declined h ?_⟩⟩
  · rw [readTicketEffect, if_neg hs, within_none (.inr hv), orBadArg_none']
  · rw [readTicketEffect_part hs hv, withTicket_none ht]
  · simp only [secondsUp]
    omega
  · simp only [secondsUp]
    omega
  · have hv : (BitVec.ofNat 32 (k + 2)).toNat = k + 2 := toNat_word (by omega)
    rw [hpart (by omega) ht, hv, readTicketPart_item hi, answered]
  · have hv : (BitVec.ofNat 32 (k + 2)).toNat = k + 2 := toNat_word (by omega)
    rw [hpart (by omega) ht, hv, readTicketPart_no_item hl]

end

/-- Settles O43: the plan by position, the zone's parts, and the tickets by rank and by part. -/
theorem planZoneAndTicketReads : Obligations.PlanZoneAndTicketReads := by
  refine ⟨fun _ _ => code_of_listed (by decide), fun _ _ => code_of_listed (by decide),
    fun _ _ => code_of_listed (by decide), fun _ _ => code_of_listed (by decide), fun p s h => ?_, fun p s h => ?_⟩
  · obtain ⟨hmember, hempty, hposition, hcounts, hvalue⟩ := plan_rows h
    refine ⟨hmember, hempty, hposition, hcounts, hvalue, fun z => any_answered h (readZoneEffect_eq z _),
      fun sel hs => any_declined h ?_⟩
    rw [readZoneEffect, finOf_none hs, orBadArg_none']
  · obtain ⟨hrank, hempty, hcounts, hvalue⟩ := ticket_table_rows h
    exact ⟨hrank, hempty, hcounts, hvalue, fun sel hs => ticket_part_rows h hs⟩

end Sys2Proof.Machine

/-! PROOF. The reads of both rings (R35, R139, R187): numbers that run on one by one are different, so a cursor finds
the one record it stands on, and the record after it bears the next number. -/

namespace Sys2Proof.Machine

/-! ## Numbers that run on -/

/-- A number after the first is the first one counted on. -/
theorem Consecutive.mem_tail {a q : Nat} {l : List Nat} (h : Consecutive (a :: l)) (hq : q ∈ l) :
    ∃ j, 1 ≤ j ∧ j ≤ l.length ∧ q = (a + j) % 4294967296 := by
  induction l generalizing a with
  | nil => exact absurd hq List.not_mem_nil
  | cons b rest ih =>
    obtain ⟨hb, hrest⟩ := h
    rw [nextSequence] at hb
    rw [List.length_cons]
    rcases List.mem_cons.mp hq with rfl | hq
    · exact ⟨1, le_rfl, by omega, hb⟩
    · obtain ⟨j, hj, hjlen, hjq⟩ := ih hrest hq
      exact ⟨j + 1, by omega, by omega, by omega⟩

theorem Consecutive.nodup {l : List Nat} (h : Consecutive l) (hl : l.length < 4294967296) : l.Nodup := by
  induction l with
  | nil => exact List.nodup_nil
  | cons a rest ih =>
    rw [List.length_cons] at hl
    refine List.nodup_cons.mpr ⟨fun ha => ?_, ih (consecutive_tail h) (by omega)⟩
    obtain ⟨j, hj, hjlen, hja⟩ := h.mem_tail ha
    omega

theorem Consecutive.of_append {l₁ l₂ : List Nat} (h : Consecutive (l₁ ++ l₂)) : Consecutive l₂ := by
  induction l₁ with
  | nil => exact h
  | cons a rest ih => exact ih (consecutive_tail h)

/-! ## The record under a cursor -/

section
variable {α : Type} {seqOf : α → Nat} {capacity latest : Nat} {ring pre post : List α} {w : α}

/-- The records before one of a ring, and those after it. -/
theorem RingRuns.split (h : RingRuns capacity latest (ring.map seqOf)) (hc : capacity < 4294967296) (hw : w ∈ ring) :
    ∃ pre post, ring = pre ++ w :: post ∧ (∀ r ∈ pre, seqOf r ≠ seqOf w) ∧ (∀ r ∈ post, seqOf r ≠ seqOf w) := by
  obtain ⟨hlength, hrun, -, -⟩ := h
  have hnodup := hrun.nodup (Nat.lt_of_le_of_lt hlength hc)
  obtain ⟨pre, post, rfl⟩ := List.append_of_mem hw
  rw [List.map_append, List.map_cons] at hnodup
  obtain ⟨-, hpost, hcross⟩ := List.nodup_append.mp hnodup
  exact ⟨pre, post, rfl, fun r hr => hcross _ (List.mem_map_of_mem hr) _ List.mem_cons_self,
    fun r hr he => (List.nodup_cons.mp hpost).1 (he ▸ List.mem_map_of_mem hr)⟩

/-- A number of the ring finds the record that bears it. -/
theorem RingRuns.find?_eq (h : RingRuns capacity latest (ring.map seqOf)) (hc : capacity < 4294967296) (hw : w ∈ ring) :
    ring.find? (fun r => seqOf r = seqOf w) = some w := by
  obtain ⟨pre, post, rfl, hpre, -⟩ := h.split hc hw
  exact List.find?_eq_some_iff_append.mpr ⟨by simp, pre, post, rfl, fun r hr => by simpa using hpre r hr⟩

/-- After the latest record none follows, after any other the one with the next number. -/
theorem RingRuns.newerThan_eq (h : RingRuns capacity latest (ring.map seqOf)) (hc : capacity < 4294967296)
    (hw : w ∈ ring) : newerThan seqOf ring (seqOf w) =
      if seqOf w = latest then none else some (nextSequence (seqOf w)) := by
  obtain ⟨pre, post, rfl, hpre, hpost⟩ := h.split hc hw
  obtain ⟨-, hrun, hlast, -⟩ := h
  rw [List.map_append] at hrun hlast
  have hdrop : (pre ++ w :: post).dropWhile (fun r => seqOf r != seqOf w) = w :: post := by
    rw [List.dropWhile_append_of_pos fun r hr => by simpa using hpre r hr]
    exact List.dropWhile_cons_of_neg (by simp)
  unfold newerThan
  rw [hdrop]
  cases post with
  | nil => exact (if_pos (hlast _ (by simp))).symm
  | cons r rest =>
    have hnext : seqOf r = nextSequence (seqOf w) := hrun.of_append.1
    have hlatest : seqOf w ≠ latest := fun he => by
      obtain ⟨x, hx⟩ : ∃ x, (r :: rest).getLast? = some x := ⟨_, List.getLast?_eq_some_getLast (by simp)⟩
      have hxl : seqOf x = latest := hlast _ (by
        rw [List.map_cons, List.getLast?_append_cons, ← List.map_cons, List.getLast?_map, List.getLast?_cons_cons, hx]
        rfl)
      exact hpost x (List.mem_of_getLast? hx) (hxl.trans he.symm)
    exact (congrArg some hnext).trans (if_neg hlatest).symm

/-- Where a read leaves a cursor that stands on a record (R35, R139). -/
theorem RingRuns.advanceCursor_eq (h : RingRuns capacity latest (ring.map seqOf)) (hc : capacity < 4294967296)
    (hw : w ∈ ring) (lastField f : Nat) : advanceCursor seqOf lastField ring (seqOf w) f =
      if f < lastField then .on (seqOf w) (f + 1)
      else if seqOf w = latest then .past
      else .on ((seqOf w + 1) % 4294967296) 0 := by
  rw [advanceCursor, h.newerThan_eq hc hw]
  by_cases he : seqOf w = latest
  · simp [he]
  · simp [he, nextSequence]

end

/-! ## The fields -/

theorem Table.getD_data {α : Type} {n : Nat} (t : Table α n) (i : Fin n) (d : α) : t.data.getD i.val d = t.get i :=
  List.getD_eq_getElem _ _ (by rw [t.size]; exact i.isLt)

/-- A number listed with the field that it names. -/
theorem field_of_pairs {g : Nat → Nat} {l : List (Nat × Nat)} (h : l.Forall fun q => g q.1 = q.2) {f d : Nat}
    (hf : (f, d) ∈ l) : g f = d := List.forall_iff_forall_mem.mp h _ hf

theorem windowField_of_listed {w : WindowRecord} {f d : Nat}
    (h : (f, d) ∈ [(0, w.seq), (1, w.loaded), (2, w.sums.get 0), (3, w.sums.get 1), (4, w.sums.get 2),
      (5, w.sums.get 3), (6, w.sums.get 4), (7, w.sums.get 5), (8, w.sums.get 6), (9, w.sums.get 7),
      (10, w.markers.code)]) : w.field f = d := by
  have hsum (z : Fin 8) : w.sums.data.getD z.val 0 = w.sums.get z := w.sums.getD_data z 0
  refine field_of_pairs ?_ h
  exact ⟨rfl, rfl, hsum 0, hsum 1, hsum 2, hsum 3, hsum 4, hsum 5, hsum 6, hsum 7, rfl⟩

theorem serviceField_of_listed {w : ServiceRecord} {f d : Nat}
    (h : (f, d) ∈ [(0, w.seq), (1, w.element.val), (2, w.ticket), (3, w.outcome.code), (4, w.wear),
      (5, w.renewCount), (6, w.window)]) : w.field f = d := by
  refine field_of_pairs ?_ h
  exact ⟨rfl, rfl, rfl, rfl, rfl, rfl, rfl⟩

theorem Markers.code_eq (k : Markers) : k.code = (if k.shift then 1 else 0) + (if k.park then 2 else 0) +
    (if k.service then 4 else 0) + (if k.divider then 8 else 0) + if k.start then 16 else 0 := by
  obtain ⟨shift, park, service, divider, start⟩ := k
  cases shift <;> cases park <;> cases service <;> cases divider <;> cases start <;> rfl

/-! ## The reads -/

section
variable {s : State} {p : Port}

theorem received_rings (h : s.Taking p) : (s.received p).history = s.history ∧ (s.received p).window = s.window ∧
    (s.received p).log = s.log := by
  rw [received_eq h, State.awake]
  split <;> exact ⟨rfl, rfl, rfl⟩

theorem readHistoryField_on {r : State} {w : WindowRecord} {f : Nat}
    (hr : RingRuns 48 r.window.seq (r.history.ring.map WindowRecord.seq))
    (hw : w ∈ r.history.ring)
    (hi : (r.ports.get p).history = .on w.seq f) : readHistoryField p r = answered (r.setHistoryCursor p (
      if f < 10 then .on w.seq (f + 1)
      else if w.seq = r.window.seq then .past
      else .on ((w.seq + 1) % 4294967296) 0)) (w.field f) := by
  rw [readHistoryField, hi]
  simp only [hr.find?_eq (by decide) hw, hr.advanceCursor_eq (by decide) hw]

theorem readLogField_on {r : State} {w : ServiceRecord} {f : Nat}
    (hr : RingRuns 128 r.log.seq (r.log.ring.map ServiceRecord.seq)) (hw : w ∈ r.log.ring)
    (hi : (r.ports.get p).log = .on w.seq f) : readLogField p r = answered (r.setLogCursor p (
      if f < 6 then .on w.seq (f + 1)
      else if w.seq = r.log.seq then .past
      else .on ((w.seq + 1) % 4294967296) 0)) (w.field f) := by
  rw [readLogField, hi]
  simp only [hr.find?_eq (by decide) hw, hr.advanceCursor_eq (by decide) hw]

theorem readHistoryField_past {r : State} (hi : (r.ports.get p).history = .past) :
    readHistoryField p r = readHistoryPast p r := by
  rw [readHistoryField, hi]

theorem readHistoryPast_empty {r : State} (h : r.history.mode = .stop ∨ r.history.ring = []) :
    readHistoryPast p r = declined r .empty := by
  rcases h with h | h
  · simp [readHistoryPast, h]
  · cases hm : r.history.mode <;> simp [readHistoryPast, h, hm]

theorem readHistoryPast_oldest {r : State} {w : WindowRecord} {rest : List WindowRecord}
    (hm : r.history.mode = .cycle) (hring : r.history.ring = w :: rest) :
    readHistoryPast p r = answered (r.setHistoryCursor p (.on w.seq 1)) w.seq := by
  simp [readHistoryPast, hm, hring]

theorem readLogField_past {r : State} (hi : (r.ports.get p).log = .past) :
    readLogField p r = declined r .empty := by
  rw [readLogField, hi]

theorem readHistoryEffect_badArg {sel : Byte} (h : 1 < sel.toNat) (r : State) :
    readHistoryEffect p sel r = declined r .badArg := by
  unfold readHistoryEffect
  split
  · rename_i hs
    omega
  · rename_i hs
    omega
  · rfl

theorem readLogEffect_badArg {sel : Byte} (h : 3 < sel.toNat) (r : State) :
    readLogEffect p sel r = declined r .badArg := by
  unfold readLogEffect
  split
  · rename_i hs
    omega
  · rename_i hs
    omega
  · rename_i hs
    omega
  · rename_i hs
    omega
  · rfl

end

/-- Settles O44: a cursor of a ring that runs on finds its record and the one after it. -/
theorem ringReads : Obligations.RingReads := by
  refine ⟨fun x n hx => code_of_listed (by decide) hx, Markers.code_eq, fun p s h hs hl => ?_⟩
  obtain ⟨hhistory, hwindow, hlog⟩ := received_rings h
  have hwindows := hs.1
  have hservices := hl.1
  rw [← hhistory, ← hwindow] at hwindows
  rw [← hlog] at hservices
  intro r i hist logAt
  refine ⟨fun w hw f hi d hd => any_answered h ?_, fun hi => ⟨fun he => any_declined h ?_, fun hm w rest hring =>
    any_answered h ?_⟩, ?_, fun sel hsel => any_declined h (readHistoryEffect_badArg hsel _), fun w hw f hi d hd =>
    any_answered h ?_, fun hi => any_declined h (readLogField_past hi), ?_, any_answered h rfl, any_answered h rfl,
    fun sel hsel => any_declined h (readLogEffect_badArg hsel _)⟩
  · exact (readHistoryField_on hwindows hw hi).trans (by rw [windowField_of_listed hd]; rfl)
  · exact (readHistoryField_past hi).trans (readHistoryPast_empty he)
  · exact (readHistoryField_past hi).trans (readHistoryPast_oldest hm hring)
  · refine any_answered h (congrArg (answered r) ?_)
    change i.history.index 11 = _
    cases i.history <;> rfl
  · exact (readLogField_on hservices hw hi).trans (by rw [serviceField_of_listed hd]; rfl)
  · refine any_answered h (congrArg (answered r) ?_)
    change i.log.index 7 = _
    cases i.log <;> rfl

end Sys2Proof.Machine

/-! PROOF. The accrual of one element at an epoch close (R71 to R80), what else a close does (R12, R29, R32, R47, R58,
R77, R81, R98), and the window end (R29, R34 to R36, R87 to R89). -/

namespace Sys2Proof.Machine

/-! ## What is handed to an element -/

section
variable {s : State} {e : Element} {own : Handed} {reference : Option Handed} {k : Fin 24} {n : Fin 64}

/-- The handoff of a line that exists (R12). -/
theorem handed_val (s : State) (k : Fin 24) :
    s.handed k.val = ⟨decide ((s.lines.get k).function = .tach), (s.lines.get k).count⟩ := by
  simp only [State.handed, finOf_val]

/-- The handoff of a reference line is there while the reference names a line (R54). -/
theorem handedReference_eq_some {number : Option Nat} {r : Handed} : s.handedReference number = some r ↔
    ∃ j : Fin 24, number = some j.val ∧ r = ⟨decide ((s.lines.get j).function = .tach), (s.lines.get j).count⟩ := by
  cases number with
  | none => simp [State.handedReference]
  | some v =>
    simp only [State.handedReference, Option.map_eq_some_iff, finOf_eq_some, Option.some_inj]
    exact exists_congr fun j => and_congr_right fun _ => eq_comm

theorem departure_eq (ex p : Nat) : departure ex p = ex - p + (p - ex) := by
  unfold departure
  split <;> omega

/-- When an epoch is a slip epoch of an element (R76). -/
theorem slips_iff : e.slips own reference = true ↔ ∃ r, reference = some r ∧ own.tach = true ∧ r.tach = true ∧
    8 ≤ r.count * e.expected / 64 ∧ r.count * e.expected / 64 * e.tolerance <
      (r.count * e.expected / 64 - own.pulses + (own.pulses - r.count * e.expected / 64)) * 256 := by
  cases reference with
  | none => simp [Element.slips]
  | some r => simp [Element.slips, departure_eq, and_assoc]

/-- A slip epoch of an element that turns with line `k` (R54, R76). -/
theorem slips_handed_iff : e.slips (s.handed k.val) (s.handedReference e.reference) = true ↔
    (s.lines.get k).function = .tach ∧ ∃ j : Fin 24, e.reference = some j.val ∧ (s.lines.get j).function = .tach ∧
      8 ≤ (s.lines.get j).count * e.expected / 64 ∧ (s.lines.get j).count * e.expected / 64 * e.tolerance <
        ((s.lines.get j).count * e.expected / 64 - (s.lines.get k).count +
          ((s.lines.get k).count - (s.lines.get j).count * e.expected / 64)) * 256 := by
  simp only [slips_iff, handed_val, handedReference_eq_some, Handed.pulses, decide_eq_true_eq]
  constructor
  · rintro ⟨_, ⟨j, hj, rfl⟩, hl, hlj, hex, hdep⟩
    exact ⟨hl, j, hj, by simpa using hlj, hex, by simpa [hl] using hdep⟩
  · rintro ⟨hl, j, hj, hlj, hex, hdep⟩
    exact ⟨_, ⟨j, hj, rfl⟩, hl, by simpa using hlj, hex, by simpa [hl] using hdep⟩

/-- The pulses of a TACH line are its count, of any other none (R72). -/
theorem handed_pulses (s : State) (k : Fin 24) :
    (s.handed k.val).pulses = if (s.lines.get k).function = .tach then (s.lines.get k).count else 0 := by
  simp [handed_val, Handed.pulses]

/-! ## The record after a close -/

theorem accounted_iff : e.accounted = true ↔ e.state ≠ .idle ∧ e.state ≠ .suspect := by simp [Element.accounted]

theorem not_accounted_iff : e.accounted = false ↔ e.state = .idle ∨ e.state = .suspect := by
  rw [← Bool.not_eq_true, accounted_iff]
  tauto

theorem accrual_of_not_accounted (h : (s.elements.get n).accounted = false) : s.accrual n = none := by
  simp [State.accrual, h]

/-- The accrual of an element whose tach line exists (R71). -/
theorem accrual_of_accounted (h : (s.elements.get n).accounted = true) (hk : (s.elements.get n).tach = k.val) :
    s.accrual n = some ((s.elements.get n).accrue n s.bands
      (s.book.weight (s.book.zones.get (s.elements.get n).zone).effectiveClass) (s.handed k.val)
      (s.handedReference (s.elements.get n).reference)) := by
  simp only [State.accrual, h, hk, if_true]

theorem closeEpoch_elements (ho : s.outstanding = false) : s.closeEpoch.elements = s.accrueAll.elements := by
  rw [closeEpoch_eq ho]
  simp [State.countClose, State.restartCounters, State.countDownLoads]

/-- EPOCH-CLOSE on a device that runs (R24). -/
theorem exec_epochClose (hr : s.running = true) : exec .epochClose s = .next s.closeEpoch :=
  congrArg Host.Outcome.next (if_pos hr)

/-! ## The notices of a close -/

/-- A notice raised if something happened, at one port (R144). -/
theorem raiseIf_notices_get (s : State) (m : Notice) (b : Bool) (p : Port) : (s.raiseIf m b).notices.get p =
    { s.notices.get p with events := (s.notices.get p).events ||| if b then m.bit else 0 } := by
  cases b <;> simp

theorem bringDue_notices_get (s : State) (p : Port) : s.bringDue.notices.get p = { s.notices.get p with
    events := (s.notices.get p).events |||
      if dueListOf s.elements s.plan.horizon = s.plan.due then 0 else Notice.plan.bit } := by
  rw [State.bringDue, raiseIf_notices_get]
  by_cases h : dueListOf s.elements s.plan.horizon = s.plan.due <;> simp [h]

/-- The notices that the accruals of a close and the due list raise (R58, R77, R98). -/
theorem closeEpoch_notices_get (ho : s.outstanding = false) (p : Port) : s.closeEpoch.notices.get p =
    { s.notices.get p with events := (((s.notices.get p).events |||
        if accruedAny (.ofFn s.accrual) Accrued.slip then 0x0008 else 0) |||
        if accruedAny (.ofFn s.accrual) Accrued.worn then 0x0001 else 0) |||
        if s.closeEpoch.plan.due = s.plan.due then 0 else 0x0004 } := by
  have hdue : s.closeEpoch.plan.due = dueListOf s.accrueAll.elements s.plan.horizon := by
    rw [closeEpoch_eq ho]
    simp [State.countClose, State.restartCounters, State.countDownLoads, State.accrueAll]
  have hslip : Notice.slip.bit = 0x0008 := rfl
  rw [hdue, closeEpoch_eq ho, State.countClose]
  dsimp only
  rw [bringDue_notices_get]
  simp only [State.restartCounters, State.countDownLoads, plan_bit]
  simp only [State.accrueAll, raiseIf_notices_get, State.raiseIf_elements, State.raiseIf_plan, hslip, worn_bit]

/-- The bits that three notices raised leave (R144). -/
theorem closeBits (old : NoticeSet) (slip worn : Bool) (same : Prop) [Decidable same] :
    let new := ((old ||| if slip then 0x0008 else 0) ||| if worn then 0x0001 else 0) ||| if same then 0 else 0x0004
    (new.getLsbD 0 = true ↔ old.getLsbD 0 = true ∨ worn = true) ∧
      (new.getLsbD 2 = true ↔ old.getLsbD 2 = true ∨ ¬same) ∧
      (new.getLsbD 3 = true ↔ old.getLsbD 3 = true ∨ slip = true) ∧ old ||| 0x000D = new ||| 0x000D := by
  by_cases h : same <;> cases slip <;> cases worn <;> simp [h, BitVec.or_assoc]

theorem accruedAny_iff {f : Accrued → Bool} :
    accruedAny (.ofFn s.accrual) f = true ↔ ∃ n a, s.accrual n = some a ∧ f a = true := by
  simp only [accruedAny, Table.any_iff, Table.get_ofFn]
  refine exists_congr fun n => ?_
  cases s.accrual n <;> simp

end

/-- Settles O54: the accrual of an accounted element spelled out, in a slip epoch and in any other. -/
theorem epochCloseAccrues : Obligations.EpochCloseAccrues := by
  intro n k s hr ho e hk l pulses rev64 weight base slip after
  have hown : (s.handed k.val).pulses = pulses := handed_pulses s k
  have hslip : e.slips (s.handed k.val) (s.handedReference e.reference) = true ↔ slip := by
    rw [slips_handed_iff]
    refine and_congr_right fun hl => ?_
    rw [show pulses = (s.lines.get k).count from if_pos hl]
  have hafter (he : e.accounted = true) : s.closeEpoch.elements.get n = (e.accrue n s.bands weight (s.handed k.val)
      (s.handedReference e.reference)).element := by
    rw [closeEpoch_elements ho, accrueAll_element, accrual_of_accounted he hk]
    rfl
  have hunfed : (!(s.handed k.val).tach) = decide (l.function ≠ .tach) := by rw [handed_val, decide_not]
  refine ⟨s.closeEpoch, exec_epochClose hr, fun he => ?_, fun hi hs hn => ?_, fun hi hs hy => ?_⟩
  · rw [closeEpoch_elements ho, accrueAll_element, accrual_of_not_accounted (not_accounted_iff.mpr he)]
    rfl
  · rw [← hslip, Bool.not_eq_true] at hn
    rw [hafter (accounted_iff.mpr ⟨hi, hs⟩), Element.accrue, hunfed, hown, hn]
    rfl
  · rw [← hslip] at hy
    refine ⟨?_, fun p => ?_⟩
    · rw [hafter (accounted_iff.mpr ⟨hi, hs⟩), Element.accrue, hunfed, hown, hy]
      rfl
    · have hany : accruedAny (.ofFn s.accrual) Accrued.slip = true :=
        accruedAny_iff.mpr ⟨n, _, accrual_of_accounted (accounted_iff.mpr ⟨hi, hs⟩) hk, hy⟩
      rw [closeEpoch_notices_get ho, hany]
      simp

/-! ## The zone sums of a close -/

theorem sum_map_filter {α : Type} (l : List α) (p : α → Bool) (f : α → Nat) :
    ((l.filter p).map f).sum = (l.map fun x => if p x then f x else 0).sum := by
  induction l with
  | nil => rfl
  | cons x l ih => by_cases h : p x = true <;> simp [h, ih]

/-- What a zone's elements gained at a close, element by element (R32, R79). -/
theorem zoneIncrement_eq {acc : Table (Option Accrued) 64} {zone : Fin 64 → Fin 8} {gained : Fin 64 → Nat}
    (hnone : ∀ n, acc.get n = none → gained n = 0)
    (hsome : ∀ n a, acc.get n = some a → a.element.zone = zone n ∧ gained n = a.increment) (z : Fin 8) :
    zoneIncrement acc z = (((List.finRange 64).filter fun n => zone n = z).map gained).sum := by
  rw [sum_map_filter, List.sum_eq_foldl, List.foldl_map, zoneIncrement, acc.data_eq_map_get, List.foldl_map]
  refine List.foldl_ext _ _ _ fun total n _ => ?_
  cases hn : acc.get n with
  | none => simp [hnone n hn]
  | some a =>
    obtain ⟨hz, hg⟩ := hsome n a hn
    by_cases h : zone n = z <;> simp [hz, hg, h]

section
variable {s : State} {n : Fin 64}

/-- What a close does to a load report (R47). -/
theorem countdown_eq (x : LoadReport) : x.countdown =
    if x.lapsed then x else if x.hold ≤ 1 then ⟨x.cls, 0, true⟩ else ⟨x.cls, x.hold - 1, false⟩ := by
  unfold LoadReport.countdown
  by_cases hl : x.lapsed = true
  · simp [hl]
  · by_cases hh : x.hold ≤ 1
    · simp [hl, hh]
    · simp [hl, hh]

/-- Device `t` as a close of device `s` leaves it, part by part (R12, R24, R29, R32, R47, R81, R98). -/
structure State.EpochClosed (s t : State) : Prop where
  lines : t.lines = s.lines.mapIdx (fun _ l => { l with count := 0 })
  book : t.book = { s.book with
    zones := s.book.zones.mapIdx fun _ b => { b with
      reportA := b.reportA.countdown
      reportB := b.reportB.countdown } }
  history : t.history = { s.history with
    sums := s.history.sums.mapIdx fun z v => min 16777215 (v + zoneIncrement (.ofFn s.accrual) z) }
  tickets : t.tickets = { s.tickets with
    reports := s.tickets.reports.mapIdx fun z reported =>
      reported || (decide ((s.tickets.holds.get z).state = HoldState.held) &&
        accruedAny (.ofFn s.accrual) fun a => decide (a.element.zone = z) && a.moved) }
  plan : t.plan = s.plan.reformed s.plan.due (dueListOf s.accrueAll.elements s.plan.horizon)
  window : t.window = { s.window with remaining := s.window.remaining - 1 }
  pacer : t.pacer = ⟨s.pacer.divider, 0⟩
  bands : t.bands = s.bands
  log : t.log = s.log
  ports : t.ports = s.ports
  ctl : t.ctl = s.ctl
  pins : t.pins = s.pins
  scan : t.scan = s.scan
  blink : t.blink = s.blink
  half : t.half = s.half

theorem closeEpoch_parts (ho : s.outstanding = false) : s.EpochClosed s.closeEpoch := by
  rw [closeEpoch_eq ho]
  constructor
  case history =>
    simp [State.countClose, State.restartCounters, State.countDownLoads, State.accrueAll]
    rfl
  all_goals simp [State.countClose, State.restartCounters, State.countDownLoads, State.accrueAll]

/-- An accrual reports WORN on entry to WORN (R58). -/
theorem Element.accrue_worn (e : Element) (n : Fin 64) (bands : Table Band 8) (weight : Nat) (own : Handed)
    (reference : Option Handed) : (e.accrue n bands weight own reference).worn =
      (decide ((e.accrue n bands weight own reference).element.state = .worn) && decide (e.state ≠ .worn)) := rfl

theorem reports_of_not_outstanding (ho : s.outstanding = false) (z : Fin 8) : s.tickets.reports.get z = false := by
  rw [State.outstanding, Bool.or_eq_false_iff] at ho
  by_contra h
  exact Bool.eq_false_iff.mp ho.1 ((Table.any_iff s.tickets.reports fun b => b).mpr ⟨z, by simpa using h⟩)

theorem accrual_eq_some {a : Accrued} (h : s.accrual n = some a) : (s.elements.get n).accounted = true ∧
    a = (s.elements.get n).accrue n s.bands
      (s.book.weight (s.book.zones.get (s.elements.get n).zone).effectiveClass) (s.handed (s.elements.get n).tach)
      (s.handedReference (s.elements.get n).reference) := by
  unfold State.accrual at h
  dsimp only at h
  split at h
  · exact ⟨‹_›, (Option.some_inj.mp h).symm⟩
  · exact absurd h (by simp)

/-- Some accrual of a close has a property of the accrued part (R71). -/
theorem accruedAny_iff_accounted {f : Accrued → Bool} : accruedAny (.ofFn s.accrual) f = true ↔
    ∃ n, (s.elements.get n).accounted = true ∧ f ((s.elements.get n).accrue n s.bands
      (s.book.weight (s.book.zones.get (s.elements.get n).zone).effectiveClass) (s.handed (s.elements.get n).tach)
      (s.handedReference (s.elements.get n).reference)) = true := by
  rw [accruedAny_iff]
  refine exists_congr fun n => ⟨fun ⟨a, ha, hf⟩ => ?_, fun ⟨ha, hf⟩ => ⟨_, by simp only [State.accrual, if_pos ha], hf⟩⟩
  obtain ⟨haccounted, rfl⟩ := accrual_eq_some ha
  exact ⟨haccounted, hf⟩

end

/-- Settles O56: the parts of a close one by one, the notices by their bits, the sums by what each element gained. -/
theorem epochCloseCounts : Obligations.EpochCloseCounts := by
  intro s hr ho htach slips
  obtain ⟨hlines, hbook, hhistory, htickets, hplan, hwindow, hpacer, hbands, hlog, hports, hctl, hpins, hscan, hblink,
    hhalf⟩ := closeEpoch_parts ho
  have hline (n : Fin 64) : ∃ k : Fin 24, (s.elements.get n).tach = k.val :=
    ⟨⟨(s.elements.get n).tach, by have := htach n; omega⟩, rfl⟩
  have hslips (n : Fin 64) : (s.elements.get n).slips (s.handed (s.elements.get n).tach)
      (s.handedReference (s.elements.get n).reference) = true ↔ slips n := by
    obtain ⟨k, hk⟩ := hline n
    rw [hk, slips_handed_iff]
    constructor
    · rintro ⟨hl, j, hj, hlj, hex, hdep⟩
      exact ⟨k, j, hk, hj, hl, hlj, hex, hdep⟩
    · rintro ⟨k', j, hk', hj, hl, hlj, hex, hdep⟩
      obtain rfl : k = k' := Fin.ext (hk.symm.trans hk')
      exact ⟨hl, j, hj, hlj, hex, hdep⟩
  refine ⟨s.closeEpoch, exec_epochClose hr, fun i => ?_, fun z side => ?_, fun z => ?_, fun gained hgained z => ?_,
      ?_, ?_,
    ?_, ?_, ?_, hwindow, hpacer, fun z => ?_, fun p => ?_, ?_, ?_, ?_, hbands, ?_, hlog, hports, hctl, hpins, hscan,
    hblink, hhalf⟩
  · rw [hlines, Table.get_mapIdx]
  · rw [hbook, Table.get_mapIdx]
    cases side <;> exact countdown_eq _
  · rw [hbook, Table.get_mapIdx]
    exact ⟨rfl, rfl, rfl⟩
  · rw [hhistory, Table.get_mapIdx]
    refine congrArg (fun x => min 16777215 (s.history.sums.get z + x)) ?_
    refine zoneIncrement_eq (zone := fun n => (s.elements.get n).zone) (fun n hn => ?_) (fun n a hn => ?_) z
    · rw [Table.get_ofFn] at hn
      obtain ⟨k, hk⟩ := hline n
      by_cases ha : (s.elements.get n).accounted = true
      · simp [accrual_of_accounted ha hk] at hn
      · exact (hgained n k hk).1 (not_accounted_iff.mp (by simpa using ha))
    · rw [Table.get_ofFn] at hn
      obtain ⟨k, hk⟩ := hline n
      obtain ⟨ha, rfl⟩ := accrual_eq_some hn
      obtain ⟨hi, hs⟩ := accounted_iff.mp ha
      obtain ⟨-, hsteady, hslip⟩ := hgained n k hk
      refine ⟨rfl, ?_⟩
      by_cases hy : slips n
      · rw [hslip hi hs hy, Element.accrue, (hslips n).mpr hy, hk, handed_pulses]
        rfl
      · have hn : (s.elements.get n).slips (s.handed (s.elements.get n).tach)
            (s.handedReference (s.elements.get n).reference) = false := by simpa using (hslips n).not.mpr hy
        rw [hsteady hi hs hy, Element.accrue, hn, hk, handed_pulses]
        rfl
  · rw [hplan, closeEpoch_elements ho]
    rfl
  · rw [hplan]
    rfl
  · rw [hplan]
    rfl
  · rw [hhistory]
  · rw [hplan]
    rfl
  · have hz : s.tickets.reports.get z = false := reports_of_not_outstanding ho z
    rw [htickets, Table.get_mapIdx, hz, Bool.false_or, Bool.and_eq_true, decide_eq_true_eq, accruedAny_iff_accounted]
    refine and_congr_right fun _ => exists_congr fun n => ?_
    obtain ⟨k, hk⟩ := hline n
    have hmoved : 0 < (s.handed k.val).pulses ↔ (s.lines.get k).function = .tach ∧ 0 < (s.lines.get k).count := by
      rw [handed_pulses]
      split <;> simp [*]
    simp only [Element.accrue, Element.checked, Bool.and_eq_true, decide_eq_true_eq, accounted_iff, hk, hmoved]
    constructor
    · rintro ⟨⟨hi, hs⟩, hz, hl, hc⟩
      exact ⟨k, hz, hi, hs, rfl, hl, hc⟩
    · rintro ⟨k', hz, hi, hs, hk', hl, hc⟩
      obtain rfl : k = k' := Fin.ext hk'
      exact ⟨⟨hi, hs⟩, hz, hl, hc⟩
  · intro old new
    obtain ⟨hworn, hplanned, hslip, hrest⟩ := closeBits (s.notices.get p).events
      (accruedAny (.ofFn s.accrual) Accrued.slip)
      (accruedAny (.ofFn s.accrual) Accrued.worn) (s.closeEpoch.plan.due = s.plan.due)
    have hbox := closeEpoch_notices_get ho p
    have hnew : new = _ := congrArg NoticeBox.events hbox
    have hmask := congrArg NoticeBox.mask hbox
    refine ⟨?_, ?_, ?_, ?_, hmask⟩
    · rw [hnew]
      refine hworn.trans (or_congr_right ?_)
      rw [accruedAny_iff_accounted]
      refine exists_congr fun n => ?_
      simp only [accounted_iff, and_assoc]
      refine and_congr_right fun hi => and_congr_right fun hs => ?_
      obtain ⟨k, hk⟩ := hline n
      rw [Element.accrue_worn, closeEpoch_elements ho, accrueAll_element,
        accrual_of_accounted (accounted_iff.mpr ⟨hi, hs⟩) hk, hk, Bool.and_eq_true, decide_eq_true_eq,
        decide_eq_true_eq, and_comm]
      rfl
    · rw [hnew]
      exact hplanned
    · rw [hnew]
      refine hslip.trans (or_congr_right ?_)
      rw [accruedAny_iff_accounted]
      simp only [accounted_iff, and_assoc]
      exact exists_congr fun n => and_congr_right fun _ => and_congr_right fun _ => hslips n
    · rw [hnew]
      exact hrest
  · rw [hhistory]
  · rw [hhistory]
  · rw [hbook]
  · rw [htickets]

/-! ## The window end -/

section
variable {s : State}

/-- WINDOW-END on a device that runs (R29; log 7). -/
theorem exec_windowEnd (hr : s.running = true) : exec .windowEnd s = .next s.endWindowIf :=
  congrArg Host.Outcome.next (if_pos hr)

theorem endWindow_elements (s : State) (n : Fin 64) :
    s.endWindow.elements.get n = (s.elements.get n).passed s.plan.shift := by
  simp [State.endWindow, State.loadWindow, State.appendHistory, State.passElements]

theorem endWindow_plan (s : State) : s.endWindow.plan =
    s.plan.reformed s.plan.due (dueListOf s.endWindow.elements s.plan.horizon) := by
  simp [State.endWindow, State.loadWindow, State.appendHistory, State.passElements]

theorem reformed_generation (p : Plan) (before after : List (Fin 64)) : (p.reformed before after).generation =
    if (p.reformed before after).due = before then p.generation else (p.generation + 1) % 65536 := rfl

theorem endWindow_notices (s : State) : s.endWindow.notices =
    if s.endWindow.plan.due = s.plan.due then s.notices else (s.noticed 0x0004).notices := by
  rw [endWindow_plan, reformed_due]
  refine PerPort.ext_get fun p => ?_
  simp only [State.endWindow, State.loadWindow, State.appendHistory, State.bringDue_elements, bringDue_notices_get,
    State.passElements, plan_bit]
  split <;> simp

/-- The parts that a window end leaves (R29). -/
theorem endWindow_kept (s : State) : s.endWindow.lines = s.lines ∧ s.endWindow.book = s.book ∧
    s.endWindow.bands = s.bands ∧ s.endWindow.tickets = s.tickets ∧ s.endWindow.log = s.log ∧
    s.endWindow.ctl = s.ctl ∧ s.endWindow.pins = s.pins ∧ s.endWindow.pacer = s.pacer := by
  simp [State.endWindow, State.loadWindow, State.appendHistory, State.passElements]

/-- The pass of a window end over an accounted record, the rate spelled (R87 to R89, R92). -/
theorem Element.passed_of_accounted {e : Element} (h : e.accounted = true) (shift : Nat) : e.passed shift =
    let rate := if e.seeded = false then 16 * e.accumulator
      else if e.rate ≤ 16 * e.accumulator then e.rate + (16 * e.accumulator - e.rate) / 2 ^ shift
      else e.rate - (e.rate - 16 * e.accumulator) / 2 ^ shift
    { e with
      accumulator := 0
      rate := rate
      seeded := true
      projection := projectionOf e.wear e.limit rate } := by
  rw [Element.passed, if_pos h]
  cases hs : e.seeded <;> simp [Element.projected, smoothedRate]

theorem droppedBy_eq_some {q : Nat} {ring : List WindowRecord} :
    droppedBy Config.historyCapacity WindowRecord.seq ring = some q ↔
    48 ≤ ring.length ∧ ring.head?.map WindowRecord.seq = some q := by
  unfold droppedBy Config.historyCapacity
  split
  · rename_i h
    simp [Nat.not_le.mpr h]
  · rename_i h
    simp [Nat.not_lt.mp h]

theorem oldestOf_eq (d : Nat) (ring : List WindowRecord) :
    oldestOf WindowRecord.seq ring d = (ring.head?.map WindowRecord.seq).getD d := by
  cases ring <;> rfl

end

/-- Settles O57: the pass over the records, the ring's append and the cursors, part by part. -/
theorem windowEndFormsRates : Obligations.WindowEndFormsRates := by
  intro s hr
  refine ⟨fun h => (exec_windowEnd hr).trans (congrArg Host.Outcome.next (if_neg h)), fun h => ?_⟩
  intro seq
  obtain ⟨hlines, hbook, hbands, htickets, hlog, hctl, hpins, hpacer⟩ := endWindow_kept s
  have hhistory := endWindow_history s
  refine ⟨s.endWindow, (exec_windowEnd hr).trans (congrArg Host.Outcome.next (if_pos h)), fun n => ⟨fun he => ?_,
    fun hi hs => ?_⟩, ?_, ?_, endWindow_notices s, fun p => ?_, ?_, fun z => ?_, ?_, ?_, endWindow_window s, hlines,
        hbook,
    hbands, htickets, hlog, hctl, hpins, hpacer⟩
  · rw [endWindow_elements, Element.passed, if_neg (by simp [not_accounted_iff.mpr he])]
  · rw [endWindow_elements, Element.passed_of_accounted (accounted_iff.mpr ⟨hi, hs⟩)]
  · rw [endWindow_plan, reformed_due]
  · rw [endWindow_plan]
    exact reformed_generation _ _ _
  · rw [endWindow_ports, PerPort.get_map, hhistory]
    cases hc : (s.ports.get p).history with
    | past => rfl
    | on q f =>
      simp only [Cursor.onAppend, oldestOf_eq, droppedBy_eq_some]
      rfl
  · rw [hhistory]
    rfl
  · rw [hhistory]
    exact Table.get_ofFn _ z
  · rw [hhistory]
    rfl
  · rw [hhistory]

end Sys2Proof.Machine

/-! PROOF. The starts (R84, R105, R132, R168 to R171) and what the supply does (R165 to R167). -/

namespace Sys2Proof.Machine

section
variable {s : State} {p : Port}

/-- A command of a permitted sender that stages no answer leaves its state (R178, R179). -/
theorem frameCommand_unanswered {t : State} {code : Byte} {effect : State → Taken} {who : Senders} (h : s.Taking p)
    (hc : sendersOf code = some who) (hw : who.permit p = true) (he : effect (s.received p) = ⟨t, none⟩) :
    s.frameCommand p code effect = t := by
  rw [frameCommand_taking code effect h]
  simp [State.takeCommand, hc, hw, he]

/-! ## The starts -/

/-- The check of a start, in the words of the rule (R84). -/
theorem Element.examined_eq_if (e : Element) (n : Fin 64) :
    e.examined n = if e.state ≠ .idle ∧ e.sum n ≠ e.check then { e with state := .suspect } else e := by
  simp [Element.examined, Element.inUse]

/-- A start stalls a ticket that counts toward its zone's demand (R132). -/
theorem Ticket.demoted_eq_if (t : Ticket) : (if t.active then t.enterStalled else t) =
    if t.state = TicketState.awaiting ∨ t.state = TicketState.working then
      { t with
        state := .stalled
        timer := 0
        accessSeen := false }
    else t := by
  simp only [Ticket.active_iff]
  rfl

/-- A WARM or SOFT start, said whole (R170). -/
theorem warmStart_eq (r : State) (kind : StartKind) : r.warmStart kind =
    let elements := r.elements.mapIdx fun n e =>
      if e.state ≠ .idle ∧ e.sum n ≠ e.check then { e with state := .suspect } else e
    { r with
      elements := elements
      plan := r.plan.reformed (dueListOf r.elements r.plan.horizon) (dueListOf elements r.plan.horizon)
      tickets := { r.tickets with
        table := r.tickets.table.map fun t : Ticket =>
          if t.state = TicketState.awaiting ∨ t.state = TicketState.working then
            { t with
              state := .stalled
              timer := 0
              accessSeen := false }
          else t
        holds := .ofFn fun _ => ⟨.free, false, false, 0⟩
        reports := .ofFn fun _ => false }
      book := { r.book with zones := r.book.zones.mapIdx fun _ b => { b with
        reportA := ⟨b.reportA.cls, 0, true⟩
        reportB := ⟨b.reportB.cls, 0, true⟩ } }
      history := { r.history with markers := { r.history.markers with start := true } }
      ports := r.ports.map fun i : Interface =>
        ⟨i.select, 0, i.select, 0, ⟨.start, 0x00, BitVec.ofNat 32 kind.code⟩, .past, .past⟩
      notices := .all ⟨0x2000, 0xFFFF⟩
      lines := r.lines.mapIdx fun _ l => { l with
        count := 0
        filtered := none
        sample := none }
      pins := { r.pins with
        held := .ofFn fun _ => none
        frozen := false }
      scan := { r.scan with timer := some 1 }
      blink := 0
      pacer := { r.pacer with ms := 0 }
      half := false
      ctl := { r.ctl with
        op := .active
        votes := .all .run
        startKind := kind
        valid := true } } := by
  simp only [← Element.examined_eq_if, ← Ticket.demoted_eq_if]
  rfl

/-- Out of RETAINED, VMAIN above its trip level and RSTN high: the start that the marker gives (R167). -/
theorem exec_retainedExit_start (hr : s.ctl.op = .retained) : exec (.retainedExit true true) s =
    let u : State := { s with ctl := { s.ctl with
      vmainLow := false
      rstnLow := false } }
    .next (if s.ctl.valid then u.warmStart .warm else u.coldStart) := if_pos hr

end

/-- Settles O58: both starts are the one the model makes, said whole. -/
theorem warmAndSoftStart : Obligations.WarmAndSoftStart := by
  refine fun s => ⟨fun h ho => congrArg Host.Outcome.next ?_, fun hr hv => ?_⟩
  · refine frameCommand_unanswered (effect := softResetEffect) (who := .maintenance) h (by decide) rfl ?_
    rw [softResetEffect, settle_of_not_outstanding ho, warmStart_eq]
    rfl
  · rw [exec_retainedExit_start hr, hv]
    exact congrArg Host.Outcome.next (warmStart_eq _ _)

/-- Settles O59: the COLD start by either way. -/
theorem coldStart : Obligations.ColdStart := by
  refine fun s => ⟨fun h => congrArg Host.Outcome.next ?_, fun hr hv => ?_⟩
  · exact frameCommand_unanswered (effect := clearAllEffect) (who := .maintenance) h (by decide) rfl rfl
  · rw [exec_retainedExit_start hr, hv]
    rfl

/-! ## What the supply does -/

section
variable {s : State}

/-- The marker after the monitor saw something new (R165). -/
theorem fed_eq (c : Control) : c.fed = { c with valid := c.valid && !(c.vmainLow && c.vkeepLow) } := by
  unfold Control.fed
  split <;> simp [*]

/-- A loss of the supply, outside RETAINED with nothing outstanding (R165, R166). -/
theorem exec_supplyLoss (cause : LossCause) (hr : s.ctl.op ≠ .retained) (ho : s.outstanding = false) :
    exec (.supplyLoss cause) s =
      .next { s.enterRetained with ctl := s.enterRetained.ctl.afterLoss cause } := by
  change execSupplyLoss cause s = _
  rw [execSupplyLoss, if_neg hr, settle_of_not_outstanding ho]

/-- A fall of VMAIN with VKEEP low makes the marker lost (R165). -/
theorem afterLoss_vmain (c : Control) :
    c.afterLoss .vmain = { c with vmainLow := true, valid := c.valid && !c.vkeepLow } := by
  simp [Control.afterLoss, fed_eq]

/-- In RETAINED no attention line is asserted (R166). -/
theorem attention_in_retained {p : Port} (h : s.ctl.op = .retained) : s.attention p = false := by
  simp [State.attention, State.pendingSet, h]

/-- A disturbed record, in the words of the rule (R84). -/
theorem Element.disturbed_eq (e : Element) (d : Disturbance) : e.disturbed d = { e with
    tach := d.tach.toNat
    ratio := d.ratio.toNat
    reference := if d.reference = 255 then none else some d.reference.toNat
    expected := d.expected.toNat
    tolerance := d.tolerance.toNat
    slipWeight := d.slipWeight.toNat
    limit := d.limit.toNat
    margin := d.margin.toNat
    wear := d.wear.toNat
    check := d.check.toNat } := by
  have href : d.reference.toNat = 255 ↔ d.reference = 255 := by rw [BitVec.toNat_eq]; rfl
  simp [Element.disturbed, referenceOf, href]

end

/-- Settles O60: the entry to RETAINED item by item, and the other events by the marker's equation. -/
theorem supplyLossAndEvents : Obligations.SupplyLossAndEvents := by
  refine ⟨fun cause s hr ho => ⟨_, exec_supplyLoss cause hr ho, ?_⟩, fun s => ⟨fun hr => ⟨?_, ?_⟩, fun below => ?_,
    fun vmain rstn hr hlow => ?_, fun n d hr hv => ?_⟩⟩
  · have hop : (s.enterRetained.ctl.afterLoss cause).op = .retained := by
      cases cause
      · rw [afterLoss_vmain]
        rfl
      · rfl
    have hkept : (s.enterRetained.ctl.afterLoss cause).fittedA = s.ctl.fittedA ∧
        (s.enterRetained.ctl.afterLoss cause).fittedB = s.ctl.fittedB ∧
        (s.enterRetained.ctl.afterLoss cause).vkeepLow = s.ctl.vkeepLow := by
      cases cause
      · rw [afterLoss_vmain]
        exact ⟨rfl, rfl, rfl⟩
      · exact ⟨rfl, rfl, rfl⟩
    obtain ⟨hfittedA, hfittedB, hkeep⟩ := hkept
    refine ⟨hop, hfittedA, hfittedB, hkeep, ?_, ?_, fun i => Table.get_mapIdx .., fun i => ?_, rfl, rfl, rfl, rfl, rfl,
      rfl, rfl, rfl, rfl, rfl, rfl, fun p => ?_⟩
    · rintro rfl
      dsimp only
      rw [afterLoss_vmain]
      exact ⟨rfl, rfl, rfl⟩
    · rintro rfl
      exact ⟨rfl, rfl, rfl⟩
    · simp [State.pinDrive, State.pinPullUp, hop]
    · have hport : s.enterRetained.ports.get p = (s.ports.get p).discarded := PerPort.get_map ..
      refine ⟨if_pos hop, attention_in_retained hop, ?_⟩
      dsimp only
      rw [hport]
      exact ⟨rfl, rfl, rfl⟩
  · change execSupplyLoss .vmain s = _
    rw [execSupplyLoss, if_pos hr, afterLoss_vmain]
  · change execSupplyLoss .rstn s = _
    rw [execSupplyLoss, if_pos hr]
    rfl
  · change execKeepSupplyLoss s below = _
    rw [execKeepSupplyLoss, fed_eq]
  · change execRetainedExit vmain rstn s = _
    have hwait : ¬((vmain && rstn) = true) := by rcases hlow with rfl | rfl <;> simp
    rw [execRetainedExit, if_pos hr, if_neg hwait, fed_eq]
    simp
  · intro e' he
    change execRetainedDisturbance n d s = _
    have hoccurs : ¬(((s.elements.get n).disturbed d).inUse = true ∧
        ((s.elements.get n).disturbed d).sum n = ((s.elements.get n).disturbed d).check) := by
      rw [Element.disturbed_eq, Element.inUse, bne_iff_ne]
      exact fun ⟨hu, hs⟩ => he.elim hu fun hne => hne hs
    rw [execRetainedDisturbance, if_pos ⟨hr, hv, hoccurs⟩, Element.disturbed_eq]

end Sys2Proof.Machine

/-! PROOF. What the device does with no command waiting (R11, R18, R24, R29, R81, R118, R166): each happening of the
passing time is its row of the table. -/

namespace Sys2Proof.Machine

/-! ## Rows in a row -/

theorem Runs.append {l₁ l₂ : List Instr} {s u t : State} (h₁ : Runs l₁ s u) (h₂ : Runs l₂ u t) :
    Runs (l₁ ++ l₂) s t := by
  induction l₁ generalizing s with
  | nil => exact (show u = s from h₁) ▸ h₂
  | cons c rest ih =>
    obtain ⟨v, hc, hrest⟩ := h₁
    exact ⟨v, hc, ih hrest⟩

theorem runs_singleton {c : Instr} {s t : State} (h : exec c s = .next t) : Runs [c] s t := ⟨t, h, rfl⟩

/-- A fold of one row's effect runs that row for each member of the list. -/
theorem runs_foldl {α : Type} {row : α → Instr} {f : State → α → State} (l : List α) (s : State)
    (h : ∀ x ∈ l, ∀ u, exec (row x) u = .next (f u x)) : Runs (l.map row) s (l.foldl f s) := by
  induction l generalizing s with
  | nil => rfl
  | cons x l ih =>
    exact ⟨f s x, h x List.mem_cons_self s, ih (f s x) fun y hy => h y (List.mem_cons_of_mem x hy)⟩

/-! ## What a close left outstanding -/

section
variable {s : State}

theorem running_congr {s t : State} (h : t.ctl = s.ctl) : t.running = s.running := by
  simp only [State.running, h]

theorem takeReport_reports (s : State) (z : Fin 8) :
    (s.takeReport z).tickets.reports = s.tickets.reports.set z false := by
  unfold State.takeReport
  dsimp only
  split <;> rfl

theorem exec_motionReport (hr : s.running = true) (z : Fin 8) : exec (.motionReport z) s = .next (s.takeReportIf z) :=
  congrArg Host.Outcome.next (if_pos hr)

/-- Taking what reports are outstanding runs a row for each, in order of the zones (R81). -/
theorem runs_takeReports (l : List (Fin 8)) (hl : l.Nodup) (hr : s.running = true) :
    Runs ((l.filter fun z => s.tickets.reports.get z).map Instr.motionReport) s (l.foldl State.takeReportIf s) := by
  induction l generalizing s with
  | nil => rfl
  | cons z l ih =>
    obtain ⟨hz, hl⟩ := List.nodup_cons.mp hl
    rw [List.foldl_cons]
    by_cases hreport : s.tickets.reports.get z = true
    · have htake : s.takeReportIf z = s.takeReport z := if_pos hreport
      have hothers : (l.filter fun y => (s.takeReport z).tickets.reports.get y) =
          l.filter fun y => s.tickets.reports.get y := List.filter_congr fun y hy => by
        rw [takeReport_reports, Table.get_set_other _ _ (ne_of_mem_of_not_mem hy hz)]
      rw [List.filter_cons_of_pos hreport, ← hothers, htake]
      have hrun : (s.takeReport z).running = true :=
        (running_congr (congrArg State.ctl (takeReport_eq s z))).trans hr
      exact ⟨s.takeReport z, htake ▸ exec_motionReport hr z, ih hl hrun⟩
    · have htake : s.takeReportIf z = s := if_neg hreport
      rw [List.filter_cons_of_neg hreport, htake]
      exact ih hl hr

theorem runs_windowEnd (hr : s.running = true) :
    Runs (if s.window.remaining = 0 then [.windowEnd] else []) s s.endWindowIf := by
  by_cases h : s.window.remaining = 0
  · rw [if_pos h]
    exact runs_singleton (exec_windowEnd hr)
  · rw [if_neg h]
    exact if_neg h

/-- What is outstanding is taken by its rows, reports first (R29, R81; log 6). -/
theorem runs_settle (hr : s.running = true) :
    Runs (((List.finRange 8).filter fun z => s.tickets.reports.get z).map Instr.motionReport ++
      if s.window.remaining = 0 then [.windowEnd] else []) s s.settle := by
  rw [State.settle]
  refine (runs_takeReports _ (List.nodup_finRange 8) hr).append ?_
  have hwindow : ((List.finRange 8).foldl State.takeReportIf s).window = s.window := by rw [foldl_takeReportIf_eq]
  have hrun : ((List.finRange 8).foldl State.takeReportIf s).running = true :=
    (running_congr (foldl_takeReportIf_ctl _ s)).trans hr
  generalize (List.finRange 8).foldl State.takeReportIf s = u at hwindow hrun ⊢
  rw [← hwindow]
  exact runs_windowEnd hrun

/-! ## The passing of time -/

/-- What a scan that wakes nothing leaves (R10). -/
structure State.ScanKept (s t : State) : Prop where
  ctl : t.ctl = s.ctl
  pacer : t.pacer = s.pacer
  blink : t.blink = s.blink
  tickets : t.tickets = s.tickets
  window : t.window = s.window

theorem scanContacts_kept (levels : Pins) (hp : s.ctl.op ≠ .parked) : s.ScanKept (s.scanContacts levels) := by
  by_cases ht : s.scan.timer = none
  · rw [scanContacts_stopped ht]
    exact ⟨rfl, rfl, rfl, rfl, rfl⟩
  · have hawake : (s.scannedOnce levels).awake = s.scannedOnce levels := if_neg hp
    rw [scanContacts_eq ht, hawake, ite_self]
    exact ⟨rfl, rfl, rfl, rfl, rfl⟩

/-- Half a millisecond of the contact-scan timer that does not run out (R11). -/
theorem tickScan_waits (h : ¬(s.scan.timer = some 0 ∨ s.scan.timer = some 1)) :
    s.tickScan = { s with scan := { s.scan with timer := s.scan.timer.map fun k => k - 1 } } := by
  obtain ⟨h₀, h₁⟩ := not_or.mp h
  cases ht : s.scan.timer with
  | none =>
    have hs : s.tickScan = s := by simp [State.tickScan, ht]
    rw [hs, Option.map_none, ← ht]
  | some k =>
    match k, ht with
    | 0, ht => exact absurd ht h₀
    | 1, ht => exact absurd ht h₁
    | k + 2, ht => exact tickScan_counts ht

/-- Half a millisecond of the contact-scan timer is a scan's row where it runs out (R11). -/
theorem runs_tickScan (s : State) :
    let scans := s.scan.timer = some 0 ∨ s.scan.timer = some 1
    Runs (if scans then [.contactScan s.scan.contacts] else []) (if scans then s else
      { s with scan := { s.scan with timer := s.scan.timer.map fun k => k - 1 } }) s.tickScan := by
  intro scans
  by_cases h : scans
  · rw [if_pos h, if_pos h]
    refine runs_singleton (congrArg Host.Outcome.next ?_)
    exact (h.elim (fun h₀ => tickScan_scans h₀ (Nat.zero_le 1)) fun h₁ => tickScan_scans h₁ le_rfl).symm
  · rw [if_neg h, if_neg h]
    exact tickScan_waits h

/-- Half a millisecond of the contact-scan timer leaves what is not a scan's (R10, R11). -/
theorem tickScan_kept (hp : s.ctl.op ≠ .parked) : s.ScanKept s.tickScan := by
  by_cases h : s.scan.timer = some 0 ∨ s.scan.timer = some 1
  · have hscan : s.tickScan = s.scanContacts s.scan.contacts :=
      h.elim (fun h₀ => tickScan_scans h₀ (Nat.zero_le 1)) fun h₁ => tickScan_scans h₁ le_rfl
    rw [hscan]
    exact scanContacts_kept _ hp
  · rw [tickScan_waits h]
    exact ⟨rfl, rfl, rfl, rfl, rfl⟩

/-- A millisecond of the epoch closes it by its row, or counts it (R23, R24). -/
theorem runs_tickEpoch (hr : s.running = true) : Runs (if s.pacer.divider ≤ s.pacer.ms then [.epochClose] else [])
    { s with pacer := if s.pacer.divider ≤ s.pacer.ms then s.pacer else ⟨s.pacer.divider, s.pacer.ms + 1⟩ }
    s.tickEpoch := by
  rw [State.tickEpoch, if_pos hr]
  split
  · exact runs_singleton (exec_epochClose hr)
  · rfl

/-- A millisecond of the blink clock of a device that runs (R18). -/
theorem tickBlink_eq (hr : s.running = true) : s.tickBlink = { s with blink := (s.blink + 1) % 1000 } := if_pos hr

/-- A millisecond of the epoch leaves the State Controller and the tickets of the table (R24). -/
theorem tickEpoch_kept (ho : s.outstanding = false) :
    s.tickEpoch.ctl = s.ctl ∧ s.tickEpoch.tickets.table = s.tickets.table := by
  have htickets := (closeEpoch_parts ho).tickets
  unfold State.tickEpoch
  split
  · split
    · exact ⟨closeEpoch_ctl ho, by rw [htickets]⟩
    · exact ⟨rfl, rfl⟩
  · exact ⟨rfl, rfl⟩

/-- The expiries of a millisecond are their rows, in table order (R118). -/
theorem runs_expiries (hn : ∀ t ∈ s.tickets.table, t.number ≤ 255) :
    Runs ((s.tickets.table.filter fun t : Ticket => t.state = TicketState.awaiting ∧ t.timer = 0).map
      fun t => .grantTimerExpiry (BitVec.ofNat 8 t.number)) s (s.expired.foldl State.expireNumber s) := by
  have hfilter : (s.tickets.table.filter fun t : Ticket => t.state = TicketState.awaiting ∧ t.timer = 0) =
      s.tickets.table.filter fun t => t.state = .awaiting && t.timer = 0 := by simp
  rw [hfilter, State.expired, List.foldl_map]
  refine runs_foldl _ s fun t ht u => ?_
  have hbyte : (BitVec.ofNat 8 t.number).toNat = t.number :=
    toNat_byte (Nat.lt_succ_of_le (hn t (List.mem_of_mem_filter ht)))
  exact congrArg Host.Outcome.next (congrArg u.expireNumber hbyte)

end

/-- Settles O3: an idle step by what is outstanding and, as time passes, by each clock in its order. -/
theorem idleIsTime : Obligations.IdleIsTime := by
  intro s hq
  have hidle : step s = .next s.idle := by rw [step, hq]
  refine ⟨fun hr => ?_, fun hr ho => ⟨s.settle, runs_settle hr, ?_⟩, fun hr ho hn => ?_⟩
  · rw [hidle, State.idle, if_pos hr]
  · rw [hidle, State.idle, if_neg (ne_retained_of_running hr), if_pos ho]
  · intro scans base ticked
    have htick : step s = .next s.tick := by
      rw [hidle, State.idle, if_neg hr, if_neg (by simp [ho])]
    refine ⟨base.tickScan, runs_tickScan base, fun hhalf => ?_, fun hhalf hp => ?_⟩
    · rw [htick, tick_half (hhalf.imp_right fun hp => by simp [State.running, hp])]
    · have hrun : s.running = true := by
        rw [State.running]
        cases hop : s.ctl.op <;> simp_all
      obtain ⟨hctl, hpacer, hblink, htickets, hwindow⟩ := tickScan_kept (s := base) hp
      have htock : s.tick = base.tickScan.tickBlink.tickEpoch.tickGrants :=
        if_pos (by rw [hhalf, hrun]; rfl)
      rw [htick, htock]
      generalize base.tickScan = b at hctl hpacer hblink htickets hwindow ⊢
      have hb : b.running = true := (running_congr hctl).trans hrun
      have hbo : b.outstanding = false := by
        rw [State.outstanding, htickets, hwindow]
        exact ho
      rw [tickBlink_eq hb, hblink]
      have hepoch := runs_tickEpoch (s := { b with blink := (s.blink + 1) % 1000 }) hb
      obtain ⟨hd, htable⟩ := tickEpoch_kept (s := { b with blink := (s.blink + 1) % 1000 }) hbo
      generalize ({ b with blink := (s.blink + 1) % 1000 } : State).tickEpoch = d at hepoch hd htable ⊢
      refine ⟨d, ?_, ?_⟩
      · simp only [hpacer] at hepoch
        exact hepoch
      · intro waited
        have hnumbers : ∀ t ∈ waited.tickets.table, t.number ≤ 255 := by
          intro t ht
          obtain ⟨u, hu, rfl⟩ := List.mem_map.mp ht
          have hu : u ∈ s.tickets.table := by rwa [htable, htickets] at hu
          split <;> exact hn u hu
        refine ⟨_, runs_expiries hnumbers, congrArg Host.Outcome.next ?_⟩
        exact if_pos ((running_congr hd).trans hb)

end Sys2Proof.Machine
